-- ==== Sys2Proof/Word.lean ====
section
/-! DEFINITION. The word types of SC55-CORE (spec/00_scope.md R9) and their plainest arithmetic. -/

namespace Sys2Proof

/-- One byte: the unit both buses name (R70, R400). -/
abbrev Byte := BitVec 8

/-- One 16-bit word of the main core, or a 16-bit address of the sub core. -/
abbrev Word := BitVec 16

/-- One 20-bit address of the main core's bus (R70). -/
abbrev BusAddr := BitVec 20

/-- `a : b` of R9: the concatenation of two bytes, `a` in the more significant position. -/
def Word.ofBytes (hi lo : Byte) : Word := hi ++ lo

/-- `v[15:8]`. -/
def Word.hi (v : Word) : Byte := v.extractLsb' 8 8

/-- `v[7:0]`. -/
def Word.lo (v : Word) : Byte := v.extractLsb' 0 8

/-- One bit as a bit vector of any width: `zext(b)`. -/
def bit (w : Nat) (b : Bool) : BitVec w := if b then 1#w else 0#w

end Sys2Proof
end

