-- ==== Sys2Proof/Config.lean ====
section
/-! DEFINITION. What an implementation fixes and what the spec leaves open.

`Params` holds the named parameters of spec/00_scope.md R8 that have a default: a machine carries them in its
state (`State.params`), no step writes them (R18), and a statement over all states therefore holds for every value. The
defaults are in Machine/Defaults.lean.
The parameters the spec marks OPEN, and the values it leaves free, are constants WITHOUT A BODY: nothing in Lean can
evaluate them, so what is proved holds whatever they are. -/

namespace Sys2Proof

/-- `VARIANT` of R8: the model variant, the source's "is mk1 variant" flag. -/
inductive Variant where
  | mk1
  | mk2
  deriving DecidableEq, Repr

/-- `MULXU_W_MULTIPLICAND` of R8: which register of the pair holds the word multiplicand. -/
inductive Multiplicand where
  | rdNext   -- `Rd+1`, the default
  | rd
  deriving DecidableEq, Repr

/-- `NVOICES` of R8: the number of PCM voice slots. -/
inductive VoiceSlots where
  | slots28
  | slots32
  deriving DecidableEq, Repr

/-- The number of slots as a number. -/
def VoiceSlots.count : VoiceSlots → Nat
  | .slots28 => 28
  | .slots32 => 32

/-- What a row of `MEMMAP` leads to: the arrays, register files and windows of R37 and R83. -/
inductive MapUnit where
  | rom1 | rom2 | ram | sram   -- ROM1, ROM2, RAM, SRAM
  | pcm                        -- the PCM registers (R640)
  | shared                     -- the shared-memory window (R620)
  | dev                        -- DEV (R38)
  | ext                        -- external addresses (R84)
  | unmapped
  deriving DecidableEq, Repr

/-- One row of `MEMMAP` (R83): the bus addresses `first ≤ pa < limit`, on one variant or on both, where asked only while
RAMCR.RAME = 1. The byte it names is the one at `pa - base`, modulo the size of the unit. -/
structure MapWindow where
  only     : Option Variant
  first    : Nat
  limit    : Nat
  base     : Nat
  whenRame : Bool
  unit     : MapUnit
  deriving DecidableEq, Repr

/-- The three UART channels of the sub core's device block. -/
inductive Chan where
  | c0 | c1 | c2
  deriving DecidableEq, Repr

/-- The named registers of the sub core's device block (R600), what `SUBDEVMAP` gives offsets to. -/
inductive SubDevReg where
  | uData (c : Chan) | uStat (c : Chan) | uMode (c : Chan) | uBaud (c : Chan)
  | mbox | sema | coll | ramdir | tpre | tcnt | ien | ipend | pout | pin
  deriving DecidableEq, Repr

/-- The parameters of R8 that have a default value. -/
structure Params where
  variant      : Variant      -- VARIANT
  memMap       : List MapWindow           -- MEMMAP: the first matching row applies (R83)
  fill         : Byte         -- FILL
  rom2Len      : Nat          -- len(ROM2), fixed when the host loads the image (R37, R83 row 9)
  cpi          : Nat          -- CPI
  timerDiv     : Nat          -- TIMER_DIV
  scbTerminal  : Word         -- SCB_TERMINAL
  multiplicand : Multiplicand -- MULXU_W_MULTIPLICAND
  frtCclra     : Bool         -- FRT_CCLRA
  voiceSlots   : VoiceSlots   -- NVOICES
  subDevMap    : List (Nat × SubDevReg)   -- SUBDEVMAP: offsets of the sub-core device registers (R600)
  collisionOn  : Bool         -- COLLISION_RULE: false is the default rule "never" (R609)
  deriving DecidableEq, Repr

/-- A divisor is at least 1: the condition on `TIMER_DIV` and on the length of ROM2 under which R570 and R83 mean
something. -/
def Params.wf (p : Params) : Bool := decide (0 < p.timerDiv) && decide (0 < p.rom2Len)

/-- One voice slot of the PCM engine (R47): the address-generator bank `ag[n]` and the parameter bank `par[n]`. -/
structure PcmVoice where
  addr       : BitVec 32   -- ag.addr
  loopAddr   : BitVec 32   -- ag.loop
  endAddr    : BitVec 32   -- ag.end
  acc        : BitVec 32   -- ag.acc
  pitch      : Word
  pan        : Word
  send       : Word
  envTarget0 : Word
  envTarget1 : Word
  envTarget2 : Word
  envRate0   : Word
  envRate1   : Word
  envRate2   : Word
  envLevel0  : Word
  envLevel1  : Word
  envLevel2  : Word
  filtCoef   : Word
  nibble     : BitVec 4
  gate       : Bool
  irqEn      : Bool
  ping       : Bool
  deriving DecidableEq, Repr, Inhabited

/-- A slot with every field 0 (R53). -/
def PcmVoice.zero : PcmVoice where
  addr := 0#32
  loopAddr := 0#32
  endAddr := 0#32
  acc := 0#32
  pitch := 0#16
  pan := 0#16
  send := 0#16
  envTarget0 := 0#16
  envTarget1 := 0#16
  envTarget2 := 0#16
  envRate0 := 0#16
  envRate1 := 0#16
  envRate2 := 0#16
  envLevel0 := 0#16
  envLevel1 := 0#16
  envLevel2 := 0#16
  filtCoef := 0#16
  nibble := 0#4
  gate := false
  irqEn := false
  ping := false

/-- What the open register functions of the PCM window work on: the engine's own registers (R640). -/
structure PcmView where
  voices         : List PcmVoice
  keyonCommitted : BitVec 32
  keyonPending   : BitVec 32
  waveBank       : Word
  envCounter     : BitVec 14
  deriving DecidableEq, Repr, Inhabited

/-- What an open function of one voice may read besides the voice (R634): `WAVEROM`, `wave_bank` and `env_counter`. -/
structure PcmEnv where
  waveRom    : List (Nat × Byte)
  waveBank   : Word
  envCounter : BitVec 14
  deriving DecidableEq, Repr

/-- One of the two cores. -/
inductive CoreId where
  | main
  | sub
  deriving DecidableEq, Repr

/-- One access to a shared byte, what `COLLISION_RULE(access)` is asked about (R609). -/
structure SharedAccess where
  byCore : CoreId
  write  : Bool
  index  : Nat
  deriving DecidableEq, Repr

namespace Config

/-! ## Parameters the spec marks OPEN (00_scope.md R8, 92_eei_decisions.md) -/

/-- `SUB_RATIO` is a rational number above 0 (D48): its numerator is one more than this. OPEN. -/
opaque subRatioNumPred : Nat

/-- The denominator of `SUB_RATIO` is one more than this. OPEN. -/
opaque subRatioDenPred : Nat

/-- `SUB_CPI` is a positive integer (D48): one more than this. OPEN. -/
opaque subCpiPred : Nat

/-- The numerator of `SUB_RATIO`. -/
def subRatioNum : Nat := subRatioNumPred + 1

/-- The denominator of `SUB_RATIO`. -/
def subRatioDen : Nat := subRatioDenPred + 1

/-- `SUB_CPI`, the sub-core cycles of one sub-core instruction. -/
def subCpi : Nat := subCpiPred + 1

/-- `UART_RX_LATENCY` (R604), in sub-core cycles. OPEN. -/
opaque uartRxLatency : Nat

/-- `COLLISION_RULE` where it is not the default "never" (R609). OPEN. -/
opaque collisionRule : SharedAccess → Bool

/-! ## The open functions `PCM_FUN` of the PCM engine (R634, R640, R641) -/

/-- `AddrGen` (R634 step 1): the voice after its address moved, the number of new nibbles (0 to 5) and `done`. -/
opaque addrGen : PcmEnv → PcmVoice → PcmVoice × Fin 6 × Bool

/-- The nibble address of position `j` of the address generator (R634 step 2). -/
opaque nibbleAddr : PcmEnv → PcmVoice → Nat → BitVec 32

/-- `BankMap` (R641): the index into the wave ROM. -/
opaque bankMap : Word → BitVec 32 → Nat

/-- The nibble order (R641): whether an even nibble address names the HIGH nibble. -/
opaque evenNibbleIsHigh : Bool

/-- `DpcmDecode` (R634 step 2). -/
opaque dpcmDecode : PcmEnv → PcmVoice → PcmVoice

/-- `FilterStep` (R634 step 3). -/
opaque filterStep : PcmEnv → PcmVoice → PcmVoice

/-- `EnvDue` (R634 step 4, R635). -/
opaque envDue : Word → BitVec 14 → Bool

/-- `EnvStep` (R634 step 4). -/
opaque envStep : PcmEnv → PcmVoice → Fin 3 → PcmVoice

/-- `PanMix` (R634 step 5): the voice, and what it adds to the left and the right sum. -/
opaque panMix : PcmEnv → PcmVoice → PcmVoice × Int × Int

/-- `PCM_OUT_SHIFT` (R631). -/
opaque pcmOutShift : Nat

/-- `PcmRegRead` (R640): the byte a voice register reads as. -/
opaque pcmRegRead : BitVec 6 → PcmView → Byte

/-- `PcmRegRead` (R640) has no side effect OUTSIDE the engine: what it leaves of the engine's registers is open. -/
opaque pcmRegReadView : BitVec 6 → PcmView → PcmView

/-- `PcmRegWrite` (R640): what it leaves of the voices and of `keyon_pending`. -/
opaque pcmRegWriteView : BitVec 6 → Byte → PcmView → PcmView

/-! ## Free values: the `n`-th value drawn. Nothing constrains any of them. -/

/-- A byte the spec leaves free: what `ExtRead` returns (R84, U5), an unspecified SUB8 result (R407, U6). -/
opaque freeByte : Nat → Byte

/-- A word the spec leaves free: a result of DIVXU by zero (R242, U2). -/
opaque freeWord : Nat → Word

/-- A flag the spec leaves free: N and Z after a DIVXU overflow (R242, U3). -/
opaque freeBit : Nat → Bool

end Config

end Sys2Proof
end

