-- ==== Sys2Proof/Machine/Defaults.lean ====
section
/-! DEFINITION. The default values of the parameters of spec/00_scope.md R8. -/

namespace Sys2Proof.Machine

/-- The default `MEMMAP`: rows 1 to 10 of R83 in their order; an address no row covers is unmapped (row 11). -/
def defaultMemMap : List MapWindow :=
  [⟨none,      0x00000, 0x08000,  0x00000, false, .rom1⟩,
   ⟨some .mk2, 0x0E000, 0x0E400,  0x00000, false, .pcm⟩,
   ⟨some .mk1, 0x0E000, 0x0E040,  0x00000, false, .pcm⟩,
   ⟨some .mk2, 0x0EC00, 0x0F000,  0x00000, false, .shared⟩,
   ⟨none,      0x0FF80, 0x10000,  0x00000, false, .dev⟩,
   ⟨none,      0x0FB80, 0x0FF80,  0x0FB80, true,  .ram⟩,
   ⟨none,      0x08000, 0x0E000,  0x00000, false, .sram⟩,
   ⟨none,      0x0F000, 0x0FB80,  0x00000, false, .ext⟩,
   ⟨none,      0x10000, 0x80000,  0x00000, false, .rom2⟩,
   ⟨none,      0x80000, 0x100000, 0x00000, false, .ext⟩]

/-- The default `SUBDEVMAP`: the table of R600; an offset it does not name is a stored byte. -/
def defaultSubDevMap : List (Nat × SubDevReg) :=
  [(0x00, .uData .c0), (0x01, .uStat .c0), (0x02, .uMode .c0), (0x03, .uBaud .c0),
   (0x04, .uData .c1), (0x05, .uStat .c1), (0x06, .uMode .c1), (0x07, .uBaud .c1),
   (0x08, .uData .c2), (0x09, .uStat .c2), (0x0A, .uMode .c2), (0x0B, .uBaud .c2),
   (0x0C, .mbox), (0x0D, .sema), (0x0E, .coll), (0x0F, .ramdir), (0x10, .tpre), (0x11, .tcnt), (0x12, .ien),
   (0x13, .ipend), (0x14, .pout), (0x15, .pin)]

/-- The defaults of R8. The length of ROM2 has no default in the spec: the whole 512 KiB that pages 1 to 7 can name is a
DESIGN CHOICE (notes/assumptions/3.md). -/
def defaultParams : Params where
  variant := .mk2
  memMap := defaultMemMap
  fill := 0xFF#8
  rom2Len := 0x80000
  cpi := 12
  timerDiv := 2
  scbTerminal := 0x0000#16
  multiplicand := .rdNext
  frtCclra := false
  voiceSlots := .slots32
  subDevMap := defaultSubDevMap
  collisionOn := false

end Sys2Proof.Machine
end

