-- ==== Sys2Proof/Syntax.lean ====
section
/-! DEFINITION. The instructions of SC55-CORE: MAIN16 (spec/30_encoding.md) and SUB8 (spec/47_sub_core_isa.md).

One constructor for each instruction rule of spec/opcode_table.json. Rows that share a mnemonic and a rule and differ
in an operand only (the sixteen-bit and the eight-bit displacement of a branch, the addressing mode of a SUB8 load, the
bit index of SEB) are one constructor whose argument tells them apart. The ten rows of format "ea-specifier" are
constructors of their own: the specifier that opens a general instruction, run as far as it goes. -/

namespace Sys2Proof

/-- A general register number (R20). -/
inductive Reg where
  | r0 | r1 | r2 | r3 | r4 | r5 | r6 | r7
  deriving DecidableEq, Repr

/-- The operand size `Sz` of an EA specifier or a short form (R113): byte, W = 8; word, W = 16. -/
inductive Size where
  | byte
  | word
  deriving DecidableEq, Repr

/-- `W`, the operand width in bits (R9). -/
def Size.bits : Size → Nat
  | .byte => 8
  | .word => 16

/-- An EA specifier with its displacement, address or immediate (R113). -/
inductive EA where
  | reg     (sz : Size) (n : Reg)                   -- Rn
  | preDec  (sz : Size) (n : Reg)                   -- @-Rn
  | postInc (sz : Size) (n : Reg)                   -- @Rn+
  | ind     (sz : Size) (n : Reg)                   -- @Rn
  | disp8   (sz : Size) (n : Reg) (d : Byte)        -- @(d:8,Rn)
  | disp16  (sz : Size) (n : Reg) (d : Word)        -- @(d:16,Rn)
  | abs8    (sz : Size) (a : Byte)                  -- @aa:8
  | abs16   (sz : Size) (a : Word)                  -- @aa:16
  | imm8    (v : Byte)                              -- #xx:8
  | imm16   (v : Word)                              -- #xx:16
  deriving DecidableEq, Repr

/-- The operand size a specifier gives (R113). -/
def EA.size : EA → Size
  | .reg sz _ | .preDec sz _ | .postInc sz _ | .ind sz _ => sz
  | .disp8 sz _ _ | .disp16 sz _ _ | .abs8 sz _ | .abs16 sz _ => sz
  | .imm8 _ => .byte
  | .imm16 _ => .word

/-- The operand classes of R113. -/
inductive EAClass where
  | reg
  | mem
  | imm
  deriving DecidableEq, Repr

/-- The class of a specifier (R113). -/
def EA.cls : EA → EAClass
  | .reg _ _ => .reg
  | .imm8 _ | .imm16 _ => .imm
  | .preDec _ _ | .postInc _ _ | .ind _ _ | .disp8 _ _ _ | .disp16 _ _ _ | .abs8 _ _ | .abs16 _ _ => .mem

/-- A control register that LDC, STC, ANDC, ORC and XORC reach (R350). -/
inductive CReg where
  | sr | ccr | br | ep | dp | tp
  deriving DecidableEq, Repr

/-- The quick constants of ADD:Q (R118). -/
inductive Quick where
  | plus1 | plus2 | minus1 | minus2
  deriving DecidableEq, Repr

/-- A branch displacement in its two encodings (R124). -/
inductive Disp where
  | d8  (d : Byte)
  | d16 (d : Word)
  deriving DecidableEq, Repr

/-- An immediate in its two encodings (R124). -/
inductive Imm where
  | i8  (v : Byte)
  | i16 (v : Word)
  deriving DecidableEq, Repr

/-- The target forms of JMP and JSR through a register (R321). -/
inductive JumpEA where
  | ind    (n : Reg)
  | disp8  (n : Reg) (d : Byte)
  | disp16 (n : Reg) (d : Word)
  deriving DecidableEq, Repr

/-- The addressing modes of SUB8's data instructions (R405), each with the bytes that follow the opcode. -/
inductive SubMode where
  | acc             -- A
  | imm  (n : Byte) -- #nn
  | zp   (z : Byte) -- zz
  | zpx  (z : Byte) -- zz,X
  | zpy  (z : Byte) -- zz,Y
  | abs  (a : Word) -- hhll
  | absx (a : Word) -- hhll,X
  | absy (a : Word) -- hhll,Y
  | indy (z : Byte) -- (zz),Y
  deriving DecidableEq, Repr

/-- The addressing modes without their operand bytes. -/
inductive SubKind where
  | acc | imm | zp | zpx | zpy | abs | absx | absy | indy
  deriving DecidableEq, Repr

/-- The mode of an operand. -/
def SubMode.kind : SubMode → SubKind
  | .acc => .acc
  | .imm _ => .imm
  | .zp _ => .zp
  | .zpx _ => .zpx
  | .zpy _ => .zpy
  | .abs _ => .abs
  | .absx _ => .absx
  | .absy _ => .absy
  | .indy _ => .indy

/-- The operand of SUB8's bit families (R405): the accumulator or a zero-page byte. -/
inductive SubBitOperand where
  | acc
  | zp (z : Byte)
  deriving DecidableEq, Repr

/-- The instructions. Constructors without a first letter pair `s8` are MAIN16's; `s8…` are SUB8's. -/
inductive Instr where
  -- the EA specifiers of R113, resolved by R161 to R169
  | eaReg     (sz : Size) (n : Reg)
  | eaPreDec  (sz : Size) (n : Reg)
  | eaPostInc (sz : Size) (n : Reg)
  | eaInd     (sz : Size) (n : Reg)
  | eaDisp8   (sz : Size) (n : Reg) (d : Byte)
  | eaDisp16  (sz : Size) (n : Reg) (d : Word)
  | eaAbs8    (sz : Size) (a : Byte)
  | eaAbs16   (sz : Size) (a : Word)
  | eaImm8    (v : Byte)
  | eaImm16   (v : Word)
  -- data transfer, general format
  | movGLoad  (ea : EA) (rd : Reg)      -- R190
  | movGStore (rs : Reg) (ea : EA)      -- R191
  | movGImm8  (i : Byte) (ea : EA)      -- R192
  | movGImm16 (i : Word) (ea : EA)      -- R193
  | xch       (rs : Reg) (ea : EA)      -- R203
  | swap      (ea : EA)                 -- R204
  -- data transfer, short format
  | movE      (i : Byte) (rd : Reg)     -- R194
  | movI      (i : Word) (rd : Reg)     -- R195
  | movL      (sz : Size) (a : Byte) (rd : Reg)   -- R196
  | movS      (sz : Size) (rs : Reg) (a : Byte)   -- R197
  | movFLoad  (sz : Size) (d : Byte) (rd : Reg)   -- R198
  | movFStore (sz : Size) (rs : Reg) (d : Byte)   -- R199
  | ldm       (list : Byte)             -- R201
  | stm       (list : Byte)             -- R202
  -- arithmetic
  | addG      (ea : EA) (rd : Reg)      -- R220
  | addQ      (q : Quick) (ea : EA)     -- R222
  | addx      (ea : EA) (rd : Reg)      -- R224
  | adds      (ea : EA) (rd : Reg)      -- R226
  | sub       (ea : EA) (rd : Reg)      -- R228
  | subs      (ea : EA) (rd : Reg)      -- R229
  | subx      (ea : EA) (rd : Reg)      -- R230
  | cmpG      (ea : EA) (rd : Reg)      -- R232
  | cmpGImm8  (i : Byte) (ea : EA)      -- R233
  | cmpGImm16 (i : Word) (ea : EA)      -- R234
  | cmpE      (i : Byte) (rd : Reg)     -- R235
  | cmpI      (i : Word) (rd : Reg)     -- R236
  | mulxu     (ea : EA) (rd : Reg)      -- R240
  | divxu     (ea : EA) (rd : Reg)      -- R242
  | exts      (ea : EA)                 -- R244
  | extu      (ea : EA)                 -- R245
  | clr       (ea : EA)                 -- R246
  | neg       (ea : EA)                 -- R247
  | tst       (ea : EA)                 -- R248
  | tas       (ea : EA)                 -- R250
  -- logic, shift, rotate, bit
  | and       (ea : EA) (rd : Reg)      -- R260
  | or        (ea : EA) (rd : Reg)      -- R261
  | xor       (ea : EA) (rd : Reg)      -- R262
  | not       (ea : EA)                 -- R263
  | shal      (ea : EA)                 -- R270
  | shar      (ea : EA)                 -- R271
  | shll      (ea : EA)                 -- R272
  | shlr      (ea : EA)                 -- R273
  | rotl      (ea : EA)                 -- R274
  | rotr      (ea : EA)                 -- R275
  | rotxl     (ea : EA)                 -- R276
  | rotxr     (ea : EA)                 -- R277
  | bsetI     (b : BitVec 4) (ea : EA)  -- R281
  | bsetR     (rs : Reg) (ea : EA)      -- R282
  | bclrI     (b : BitVec 4) (ea : EA)  -- R283
  | bclrR     (rs : Reg) (ea : EA)      -- R284
  | bnotI     (b : BitVec 4) (ea : EA)  -- R285
  | bnotR     (rs : Reg) (ea : EA)      -- R286
  | btstI     (b : BitVec 4) (ea : EA)  -- R287
  | btstR     (rs : Reg) (ea : EA)      -- R288
  -- control transfer
  | bra (d : Disp)   -- R301
  | brn (d : Disp)   -- R302
  | bhi (d : Disp)   -- R303
  | bls (d : Disp)   -- R304
  | bcc (d : Disp)   -- R305
  | bcs (d : Disp)   -- R306
  | bne (d : Disp)   -- R307
  | beq (d : Disp)   -- R308
  | bvc (d : Disp)   -- R309
  | bvs (d : Disp)   -- R310
  | bpl (d : Disp)   -- R311
  | bmi (d : Disp)   -- R312
  | bge (d : Disp)   -- R313
  | blt (d : Disp)   -- R314
  | bgt (d : Disp)   -- R315
  | ble (d : Disp)   -- R316
  | bsr     (d : Disp)                  -- R318
  | jmpAbs  (a : Word)                  -- R320
  | jmpInd  (t : JumpEA)                -- R321
  | jsrAbs  (a : Word)                  -- R322
  | jsrInd  (t : JumpEA)                -- R323
  | pjmpAbs (p : Byte) (a : Word)       -- R324
  | pjmpInd (n : Reg)                   -- R325
  | pjsrAbs (p : Byte) (a : Word)       -- R326
  | pjsrInd (n : Reg)                   -- R339
  | rts                                 -- R327
  | prts                                -- R337
  | rtd     (i : Imm)                   -- R328
  | prtd    (i : Imm)                   -- R329
  | scbF    (rc : Reg) (d : Byte)       -- R330
  | scbNe   (rc : Reg) (d : Byte)       -- R331
  | scbEq   (rc : Reg) (d : Byte)       -- R332
  | link    (i : Imm)                   -- R334
  | unlk                                -- R336
  -- system control
  | ldc   (ea : EA) (cr : CReg)         -- R351
  | stc   (cr : CReg) (ea : EA)         -- R352
  | andc  (ea : EA) (cr : CReg)         -- R353
  | orc   (ea : EA) (cr : CReg)         -- R354
  | xorc  (ea : EA) (cr : CReg)         -- R355
  | trapa (n : BitVec 4)                -- R356
  | rte                                 -- R357
  | sleep                               -- R358
  | nop                                 -- R359
  -- SUB8: loads, stores, transfers, stack
  | s8Lda (m : SubMode)                 -- R410
  | s8Ldx (m : SubMode)                 -- R411
  | s8Ldy (m : SubMode)                 -- R412
  | s8Sta (m : SubMode)                 -- R413
  | s8Stx (m : SubMode)                 -- R414
  | s8Sty (m : SubMode)                 -- R415
  | s8Ldm (n z : Byte)                  -- R416
  | s8Tax                               -- R417
  | s8Txa                               -- R418
  | s8Tay                               -- R419
  | s8Tya                               -- R420
  | s8Tsx                               -- R421
  | s8Txs                               -- R422
  | s8Pha                               -- R423
  | s8Pla                               -- R424
  | s8Php                               -- R425
  | s8Plp                               -- R426
  -- SUB8: arithmetic, compare, increment, decrement
  | s8Adc (m : SubMode)                 -- R430
  | s8Sbc (m : SubMode)                 -- R431
  | s8Cmp (m : SubMode)                 -- R432
  | s8Cpx (m : SubMode)                 -- R433
  | s8Cpy (m : SubMode)                 -- R434
  | s8Inc (m : SubMode)                 -- R435
  | s8Dec (m : SubMode)                 -- R436
  | s8Inx                               -- R437
  | s8Iny                               -- R438
  | s8Dex                               -- R439
  | s8Dey                               -- R440
  -- SUB8: logic and shifts
  | s8And (m : SubMode)                 -- R441
  | s8Ora (m : SubMode)                 -- R442
  | s8Eor (m : SubMode)                 -- R443
  | s8Bit (m : SubMode)                 -- R444
  | s8Asl (m : SubMode)                 -- R445
  | s8Lsr (m : SubMode)                 -- R446
  | s8Rol (m : SubMode)                 -- R447
  | s8Ror (m : SubMode)                 -- R448
  -- SUB8: branches, jumps, calls
  | s8Bpl (r : Byte)                    -- R450
  | s8Bmi (r : Byte)                    -- R451
  | s8Bvc (r : Byte)                    -- R452
  | s8Bvs (r : Byte)                    -- R453
  | s8Bcc (r : Byte)                    -- R454
  | s8Bcs (r : Byte)                    -- R455
  | s8Bne (r : Byte)                    -- R456
  | s8Beq (r : Byte)                    -- R457
  | s8Bra (r : Byte)                    -- R458
  | s8JmpAbs (a : Word)                 -- R459
  | s8JmpInd (a : Word)                 -- R460
  | s8Jsr (a : Word)                    -- R461
  | s8Rts                               -- R462
  | s8Rti                               -- R463
  | s8Brk                               -- R464
  -- SUB8: the bit families
  | s8Bbs (i : BitVec 3) (o : SubBitOperand) (r : Byte)   -- R465
  | s8Bbc (i : BitVec 3) (o : SubBitOperand) (r : Byte)   -- R466
  | s8Seb (i : BitVec 3) (o : SubBitOperand)              -- R467
  | s8Clb (i : BitVec 3) (o : SubBitOperand)              -- R468
  -- SUB8: flags, no-operation
  | s8Nop                               -- R469
  | s8Clc                               -- R471
  | s8Sec                               -- R472
  | s8Cli                               -- R473
  | s8Sei                               -- R474
  | s8Clv                               -- R475
  | s8Cld                               -- R476
  | s8Clt                               -- R477
  deriving DecidableEq, Repr

end Sys2Proof
end

