-- ==== Sys2Proof/WellFormed.lean ====
section
/-! DEFINITION. Which instructions exist: the operand classes and sizes of spec/30_encoding.md R120 and R131, the control
registers' sizes of 45_system_control.md R350, and the addressing modes of 47_sub_core_isa.md. An instruction that is
not well formed is a reserved encoding (R131), or has no encoding at all. -/

namespace Sys2Proof

/-- Register numbers of a word pair: `R[d]`, `R[d+1]` with d even (R240, R242). -/
def Reg.even : Reg → Bool
  | .r0 | .r2 | .r4 | .r6 => true
  | .r1 | .r3 | .r5 | .r7 => false

/-- Rows "reg, mem" of R120. -/
def EA.regOrMem (ea : EA) : Bool := ea.cls == .reg || ea.cls == .mem

/-- The operand size a control register requires (R350). -/
def CReg.size : CReg → Size
  | .sr => .word
  | .ccr | .br | .ep | .dp | .tp => .byte

/-- Modes of the accumulator operations LDA, ADC, SBC, CMP, AND, ORA, EOR. -/
def SubKind.isOperand : SubKind → Bool
  | .imm | .zp | .zpx | .abs | .absx | .absy | .indy => true
  | .acc | .zpy => false

/-- Modes of the read-modify-write instructions INC, DEC, ASL, LSR, ROL, ROR. -/
def SubKind.isModify : SubKind → Bool
  | .acc | .zp | .zpx | .abs | .absx => true
  | .imm | .zpy | .absy | .indy => false

/-- The instructions that have an encoding. -/
def Instr.wf : Instr → Bool
  | .eaReg _ _ | .eaPreDec _ _ | .eaPostInc _ _ | .eaInd _ _ | .eaDisp8 _ _ _ | .eaDisp16 _ _ _ => true
  | .eaAbs8 _ _ | .eaAbs16 _ _ | .eaImm8 _ | .eaImm16 _ => true
  -- R120, first row
  | .movGLoad _ _ | .addG _ _ | .sub _ _ | .cmpG _ _ | .and _ _ | .or _ _ | .xor _ _ => true
  | .addx _ _ | .subx _ _ | .adds _ _ | .subs _ _ => true
  | .mulxu ea rd | .divxu ea rd => ea.size == .byte || rd.even
  | .movGStore _ ea => ea.cls == .mem
  | .xch _ ea => ea.cls == .reg && ea.size == .word
  | .movGImm8 _ ea => ea.cls == .mem
  | .movGImm16 _ ea => ea.cls == .mem && ea.size == .word
  | .cmpGImm8 _ ea => ea.cls == .mem && ea.size == .byte
  | .cmpGImm16 _ ea => ea.cls == .mem && ea.size == .word
  | .addQ _ ea | .clr ea | .neg ea | .not ea | .tst ea => ea.regOrMem
  | .shal ea | .shar ea | .shll ea | .shlr ea | .rotl ea | .rotr ea | .rotxl ea | .rotxr ea => ea.regOrMem
  | .tas ea => ea.regOrMem && ea.size == .byte
  | .swap ea | .exts ea | .extu ea => ea.cls == .reg && ea.size == .byte
  | .bsetI _ ea | .bclrI _ ea | .bnotI _ ea | .btstI _ ea => ea.regOrMem
  | .bsetR _ ea | .bclrR _ ea | .bnotR _ ea | .btstR _ ea => ea.regOrMem
  | .ldc ea cr => ea.size == cr.size
  | .stc cr ea => ea.regOrMem && ea.size == cr.size
  | .andc ea cr | .orc ea cr | .xorc ea cr => ea.cls == .imm && ea.size == cr.size
  -- short format
  | .movE _ _ | .movI _ _ | .movL _ _ _ | .movS _ _ _ | .movFLoad _ _ _ | .movFStore _ _ _ => true
  | .ldm _ | .stm _ | .cmpE _ _ | .cmpI _ _ => true
  | .bra _ | .brn _ | .bhi _ | .bls _ | .bcc _ | .bcs _ | .bne _ | .beq _ => true
  | .bvc _ | .bvs _ | .bpl _ | .bmi _ | .bge _ | .blt _ | .bgt _ | .ble _ => true
  | .bsr _ | .jmpAbs _ | .jmpInd _ | .jsrAbs _ | .jsrInd _ | .pjmpAbs _ _ | .pjsrAbs _ _ => true
  | .pjmpInd n | .pjsrInd n => n != .r7
  | .rts | .prts | .rtd _ | .prtd _ | .scbF _ _ | .scbNe _ _ | .scbEq _ _ | .link _ | .unlk => true
  | .trapa _ | .rte | .sleep | .nop => true
  -- SUB8
  | .s8Lda m | .s8Adc m | .s8Sbc m | .s8Cmp m | .s8And m | .s8Ora m | .s8Eor m => m.kind.isOperand
  | .s8Ldx m => [SubKind.imm, .zp, .zpy, .abs, .absy].contains m.kind
  | .s8Ldy m => [SubKind.imm, .zp, .zpx, .abs, .absx].contains m.kind
  | .s8Sta m => m.kind.isOperand && m.kind != .imm
  | .s8Stx m => [SubKind.zp, .zpy, .abs].contains m.kind
  | .s8Sty m => [SubKind.zp, .zpx, .abs].contains m.kind
  | .s8Cpx m | .s8Cpy m => [SubKind.imm, .zp, .abs].contains m.kind
  | .s8Inc m | .s8Dec m | .s8Asl m | .s8Lsr m | .s8Rol m | .s8Ror m => m.kind.isModify
  | .s8Bit m => [SubKind.zp, .abs].contains m.kind
  | .s8Ldm _ _ | .s8Tax | .s8Txa | .s8Tay | .s8Tya | .s8Tsx | .s8Txs | .s8Pha | .s8Pla | .s8Php | .s8Plp => true
  | .s8Inx | .s8Iny | .s8Dex | .s8Dey => true
  | .s8Bpl _ | .s8Bmi _ | .s8Bvc _ | .s8Bvs _ | .s8Bcc _ | .s8Bcs _ | .s8Bne _ | .s8Beq _ | .s8Bra _ => true
  | .s8JmpAbs _ | .s8JmpInd _ | .s8Jsr _ | .s8Rts | .s8Rti | .s8Brk => true
  | .s8Bbs _ _ _ | .s8Bbc _ _ _ | .s8Seb _ _ | .s8Clb _ _ => true
  | .s8Nop | .s8Clc | .s8Sec | .s8Cli | .s8Sei | .s8Clv | .s8Cld | .s8Clt => true

/-- Whether an instruction is one of SUB8's. -/
def Instr.isSub8 : Instr → Bool
  | .s8Lda _ | .s8Ldx _ | .s8Ldy _ | .s8Sta _ | .s8Stx _ | .s8Sty _ | .s8Ldm _ _ => true
  | .s8Tax | .s8Txa | .s8Tay | .s8Tya | .s8Tsx | .s8Txs | .s8Pha | .s8Pla | .s8Php | .s8Plp => true
  | .s8Adc _ | .s8Sbc _ | .s8Cmp _ | .s8Cpx _ | .s8Cpy _ | .s8Inc _ | .s8Dec _ => true
  | .s8Inx | .s8Iny | .s8Dex | .s8Dey => true
  | .s8And _ | .s8Ora _ | .s8Eor _ | .s8Bit _ | .s8Asl _ | .s8Lsr _ | .s8Rol _ | .s8Ror _ => true
  | .s8Bpl _ | .s8Bmi _ | .s8Bvc _ | .s8Bvs _ | .s8Bcc _ | .s8Bcs _ | .s8Bne _ | .s8Beq _ | .s8Bra _ => true
  | .s8JmpAbs _ | .s8JmpInd _ | .s8Jsr _ | .s8Rts | .s8Rti | .s8Brk => true
  | .s8Bbs _ _ _ | .s8Bbc _ _ _ | .s8Seb _ _ | .s8Clb _ _ => true
  | .s8Nop | .s8Clc | .s8Sec | .s8Cli | .s8Sei | .s8Clv | .s8Cld | .s8Clt => true
  | .eaReg _ _ | .eaPreDec _ _ | .eaPostInc _ _ | .eaInd _ _ | .eaDisp8 _ _ _ | .eaDisp16 _ _ _ => false
  | .eaAbs8 _ _ | .eaAbs16 _ _ | .eaImm8 _ | .eaImm16 _ => false
  | .movGLoad _ _ | .movGStore _ _ | .movGImm8 _ _ | .movGImm16 _ _ | .xch _ _ | .swap _ => false
  | .movE _ _ | .movI _ _ | .movL _ _ _ | .movS _ _ _ | .movFLoad _ _ _ | .movFStore _ _ _ | .ldm _ | .stm _ => false
  | .addG _ _ | .addQ _ _ | .addx _ _ | .adds _ _ | .sub _ _ | .subs _ _ | .subx _ _ => false
  | .cmpG _ _ | .cmpGImm8 _ _ | .cmpGImm16 _ _ | .cmpE _ _ | .cmpI _ _ | .mulxu _ _ | .divxu _ _ => false
  | .exts _ | .extu _ | .clr _ | .neg _ | .tst _ | .tas _ | .and _ _ | .or _ _ | .xor _ _ | .not _ => false
  | .shal _ | .shar _ | .shll _ | .shlr _ | .rotl _ | .rotr _ | .rotxl _ | .rotxr _ => false
  | .bsetI _ _ | .bsetR _ _ | .bclrI _ _ | .bclrR _ _ | .bnotI _ _ | .bnotR _ _ | .btstI _ _ | .btstR _ _ => false
  | .bra _ | .brn _ | .bhi _ | .bls _ | .bcc _ | .bcs _ | .bne _ | .beq _ => false
  | .bvc _ | .bvs _ | .bpl _ | .bmi _ | .bge _ | .blt _ | .bgt _ | .ble _ => false
  | .bsr _ | .jmpAbs _ | .jmpInd _ | .jsrAbs _ | .jsrInd _ | .pjmpAbs _ _ | .pjmpInd _ | .pjsrAbs _ _ | .pjsrInd _ => false
  | .rts | .prts | .rtd _ | .prtd _ | .scbF _ _ | .scbNe _ _ | .scbEq _ _ | .link _ | .unlk => false
  | .ldc _ _ | .stc _ _ | .andc _ _ | .orc _ _ | .xorc _ _ | .trapa _ | .rte | .sleep | .nop => false

/-- Whether an instruction is an EA specifier alone (R113). -/
def Instr.isSpecifier : Instr → Bool
  | .eaReg _ _ | .eaPreDec _ _ | .eaPostInc _ _ | .eaInd _ _ | .eaDisp8 _ _ _ | .eaDisp16 _ _ _ => true
  | .eaAbs8 _ _ | .eaAbs16 _ _ | .eaImm8 _ | .eaImm16 _ => true
  | _ => false

end Sys2Proof
end

