-- ==== Sys2Proof/Machine/State.lean ====
section
/-! DEFINITION. The state of SC55-CORE (spec/10_state.md) as plain data, and its value after reset (R50 to R53).

Registers are grouped by the unit that holds them. Arrays of bytes are lists of cells in one canonical form
(Sys2Proof.Machine.Memory below; its operations are in Machine/Memory.lean). -/

namespace Sys2Proof.Machine

/-- A byte array: `(index, byte)` pairs, indices strictly rising, no byte equal to what an unlisted index reads as
(notes/assumptions/5.md). -/
abbrev Memory := List Host.Cell

/-! ## The main core -/

/-- The general registers (R20). -/
structure Regs where
  r0 : Word
  r1 : Word
  r2 : Word
  r3 : Word
  r4 : Word
  r5 : Word
  r6 : Word
  r7 : Word
  deriving DecidableEq, Repr

/-- What the pending-exception slot can hold (R34). -/
inductive ExcKind where
  | addressError
  | invalidInstruction
  | trace
  deriving DecidableEq, Repr

/-- The interrupt sources: NMI and the maskable sources of R530, in ascending vector number. -/
inductive Source where
  | irq0 | irq1
  | frt0Ocia | frt0Ocib | frt0Fovi
  | frt1Ocia | frt1Ocib | frt1Fovi
  | frt2Ocia | frt2Ocib | frt2Fovi
  | tmrCmia | tmrCmib | tmrOvi
  | sciEri | sciRxi | sciTxi
  | adi
  | nmi
  deriving DecidableEq, Repr

/-- The registers and the hidden state of the main core (R20 to R36). -/
structure Cpu where
  regs        : Regs
  pc          : Word
  sr          : Word
  cp          : Byte
  dp          : Byte
  ep          : Byte
  tp          : Byte
  br          : Byte
  cycles      : Nat
  sleep       : Bool
  suppress    : Bool
  excSlot     : Option ExcKind
  trapPending : BitVec 16
  intPending  : BitVec 19   -- bit by `Source`, see `Source.index`
  deriving DecidableEq, Repr

/-- The byte arrays behind the main bus (R37). -/
structure Memories where
  rom1 : Memory
  rom2 : Memory
  ram  : Memory
  sram : Memory
  deriving DecidableEq, Repr

/-! ## Timers and controller registers -/

/-- The three free-running timers. -/
inductive FrtId where
  | k0 | k1 | k2
  deriving DecidableEq, Repr

/-- A free-running timer (R39). -/
structure Frt where
  tcr      : Byte
  tcsr     : Byte
  frc      : Word
  ocra     : Word
  ocrb     : Word
  rdShadow : Byte
  deriving DecidableEq, Repr

/-- The 8-bit compare timer (R40). -/
structure Tmr where
  tcr      : Byte
  tcsr     : Byte
  tcnt     : Byte
  tcora    : Byte
  tcorb    : Byte
  rdShadow : Byte
  deriving DecidableEq, Repr

/-- The device registers of R38, and the timer clock counter of R41. -/
structure Dev where
  frt0  : Frt
  frt1  : Frt
  frt2  : Frt
  tmr   : Tmr
  ipra  : Byte
  iprb  : Byte
  iprc  : Byte
  iprd  : Byte
  ramcr : Byte
  p1cr  : Byte
  tclk  : Nat
  deriving DecidableEq, Repr

/-! ## The sub core and the link -/

/-- The sub core (R42, R43). -/
structure SubCore where
  a      : Byte
  x      : Byte
  y      : Byte
  s      : Byte
  p      : Byte
  spc    : Word
  cycles : Nat
  rom    : Memory
  ram    : Memory
  deriving DecidableEq, Repr

/-- One UART channel (R44, R600). -/
structure Uart where
  rxData     : Byte
  rxReady    : Bool
  rxDue      : Option Nat
  rxIncoming : Byte
  txData     : Byte
  txEmpty    : Bool
  mode       : Byte
  baud       : Byte
  deriving DecidableEq, Repr

/-- What lies between the cores, and the sub core's device block (R43 to R45, R600). -/
structure Link where
  shram      : Memory        -- SHRAM
  acc        : BitVec 192    -- ACC: bit i is the access flag of shared byte i
  ramdir     : Byte
  mboxM2s    : Byte
  mboxS2m    : Byte
  semaphore  : Byte
  collision  : Byte
  latchS2m   : Byte
  latchM2s   : Byte
  uart0      : Uart
  uart1      : Uart
  uart2      : Uart
  stPrescale : Byte          -- stimer_prescale
  stCount    : Byte          -- stimer_count
  stDiv      : Nat           -- stimer_div
  intEnable  : BitVec 5      -- sub_int_enable
  intPending : Byte          -- sub_int_pending
  stored     : Memory        -- SUBDEV[0x16..0x1F], by offset
  deriving DecidableEq, Repr

/-! ## The PCM engine -/

/-- The PCM engine (R47, R48). DESIGN CHOICE: `acc_left` and `acc_right`, of which R48 says "signed, at least 32 bits", are
integers that never wrap or saturate (notes/assumptions/36.md). -/
structure Pcm where
  voices           : List PcmVoice
  keyonCommitted   : BitVec 32
  keyonPending     : BitVec 32
  waveBank         : Word
  pcmCycles        : Nat
  envCounter       : BitVec 14
  voiceIrqPending  : Bool
  voiceIrqChannel  : BitVec 5
  activeVoiceCount : BitVec 5
  accLeft          : Int
  accRight         : Int
  waveRom          : Memory
  deriving DecidableEq, Repr

/-! ## The model's own fields -/

/-- The lines `set_sci` drives (R670). -/
inductive SciLine where
  | eri | rxi | txi
  deriving DecidableEq, Repr

/-- One action of the host between two quanta (R670); `tick` lets one quantum pass (notes/assumptions/17.md). -/
inductive HostEvent where
  | reset
  | setNmi   (b : Bool)
  | setIrq1  (b : Bool)
  | setSci   (l : SciLine) (b : Bool)
  | setAdi   (b : Bool)
  | postUart (b : Byte)
  | tick
  deriving DecidableEq, Repr

/-- What the block hands to the host (R670; notes/assumptions/18.md). -/
inductive HostOutput where
  | sample   (left right : Int)          -- post_sample
  | uartTx   (c : Chan) (b : Byte)       -- SubUartTx
  | extWrite (pa : BusAddr) (b : Byte)   -- ExtWrite
  deriving DecidableEq, Repr

/-- Which part of the quantum the next step runs (notes/assumptions/2.md). -/
inductive Phase where
  | main
  | sub
  deriving DecidableEq, Repr

/-- Fields the spec does not name. -/
structure Model where
  draws   : Nat               -- free values drawn so far (notes/assumptions/9.md)
  hostIn  : List HostEvent    -- host events not yet taken, first first
  hostOut : List HostOutput   -- what was handed out, newest first
  phase   : Phase
  deriving DecidableEq, Repr

/-! ## The whole state -/

/-- The state of the block (spec/10_state.md). `params` is configuration (R18): no step writes it. -/
structure State where
  params : Params
  cpu    : Cpu
  mem    : Memories
  dev    : Dev
  sub    : SubCore
  link   : Link
  pcm    : Pcm
  model  : Model
  deriving DecidableEq, Repr

/-- No condition of the machine stops it with a fault: 93_implementation_defined.md says that no entry has the treatment
`fault` or `stuck`, and R72, R501 that the main core has no bus fault. So there is no constructor, and nothing raises one
(notes/assumptions/27.md). Safe. -/
inductive Fault where
  deriving DecidableEq, Repr

/-- Why a step has no meaning. -/
inductive Refusal where
  /-- Raised by an arm of `exec` whose instruction has no meaning in the model. No arm does. Safe. -/
  | notModelled (mnemonic : String)
  /-- Raised by LDM and STM when the list byte names R[7]: "unspecified ... a model refuses it" (R201, R202, U4;
  notes/assumptions/13.md). Safe. -/
  | listNamesSp
  /-- Raised by a sub-core step that fetches a reserved SUB8 opcode: "unspecified (93_implementation_defined.md U7:
  refuse)" (R470; notes/assumptions/14.md). Safe. -/
  | reservedSubOpcode (opcode : Byte)
  deriving DecidableEq, Repr

/-! ## Reset values -/

/-- The main core after reset (R50); CP and PC are vector 0 of a ROM1 with nothing loaded. -/
def Cpu.reset : Cpu where
  regs := ⟨0, 0, 0, 0, 0, 0, 0, 0⟩
  pc := 0x0000#16
  sr := 0x0700#16
  cp := 0x00#8
  dp := 0x00#8
  ep := 0x00#8
  tp := 0x00#8
  br := 0x00#8
  cycles := 0
  sleep := false
  suppress := false
  excSlot := none
  trapPending := 0#16
  intPending := 0#19

/-- A free-running timer after reset (R51). -/
def Frt.reset : Frt where
  tcr := 0x00#8
  tcsr := 0x00#8
  frc := 0x0000#16
  ocra := 0xFFFF#16
  ocrb := 0xFFFF#16
  rdShadow := 0x00#8

/-- The 8-bit timer after reset (R51). -/
def Tmr.reset : Tmr where
  tcr := 0x00#8
  tcsr := 0x00#8
  tcnt := 0x00#8
  tcora := 0xFF#8
  tcorb := 0xFF#8
  rdShadow := 0x00#8

/-- The device registers after reset (R51). -/
def Dev.reset : Dev where
  frt0 := Frt.reset
  frt1 := Frt.reset
  frt2 := Frt.reset
  tmr := Tmr.reset
  ipra := 0x00#8
  iprb := 0x00#8
  iprc := 0x00#8
  iprd := 0x00#8
  ramcr := 0x00#8
  p1cr := 0x00#8
  tclk := 0

/-- A UART channel after reset (R52). -/
def Uart.reset : Uart where
  rxData := 0x00#8
  rxReady := false
  rxDue := none
  rxIncoming := 0x00#8
  txData := 0x00#8
  txEmpty := true
  mode := 0x00#8
  baud := 0x00#8

/-- The link after reset (R52), around a shared RAM that reset does not write (R51). -/
def Link.reset (shram : Memory) : Link where
  shram := shram
  acc := 0#192
  ramdir := 0x00#8
  mboxM2s := 0x00#8
  mboxS2m := 0x00#8
  semaphore := 0x00#8
  collision := 0x00#8
  latchS2m := 0x00#8
  latchM2s := 0x00#8
  uart0 := Uart.reset
  uart1 := Uart.reset
  uart2 := Uart.reset
  stPrescale := 0x00#8
  stCount := 0x00#8
  stDiv := 0
  intEnable := 0#5
  intPending := 0x00#8
  stored := []

/-- The PCM engine after reset (R53), with its number of slots and its wave ROM. -/
def Pcm.reset (slots : Nat) (waveRom : Memory) : Pcm where
  voices := List.replicate slots PcmVoice.zero
  keyonCommitted := 0#32
  keyonPending := 0#32
  waveBank := 0#16
  pcmCycles := 0
  envCounter := 0#14
  voiceIrqPending := false
  voiceIrqChannel := 0#5
  activeVoiceCount := 0#5
  accLeft := 0
  accRight := 0
  waveRom := waveRom

/-- The machine right after power-on and reset (R650), with no ROM image loaded (notes/assumptions/6.md). The power-on
value of `S` (U21) is notes/assumptions/7.md, that of the RAMs (U20) notes/assumptions/5.md. -/
def State.reset : State where
  params := defaultParams
  cpu := Cpu.reset
  mem := ⟨[], [], [], []⟩
  dev := Dev.reset
  sub :=
    { a := 0x00#8, x := 0x00#8, y := 0x00#8, s := 0x00#8, p := 0x04#8, spc := 0x0000#16, cycles := 0,
      rom := [], ram := [] }
  link := Link.reset []
  pcm := Pcm.reset 32 []
  model := { draws := 0, hostIn := [], hostOut := [], phase := .main }

end Sys2Proof.Machine
end

