-- ==== Sys2Proof/Machine/Memory.lean ====
section
/-! DEFINITION. Byte arrays in their canonical form: indices strictly rising, no byte listed that reads the same
unlisted. -/

namespace Sys2Proof.Machine

/-- What an unlisted index reads as: the power-on content of the RAMs (`RAM_INIT`, U20: the spec gives none) and the
content of a ROM image where nothing is loaded. DESIGN CHOICE, unsafe (notes/assumptions/5.md). -/
def Memory.blank : Byte := 0x00#8

/-- The byte at index `a`. -/
def Memory.read : Memory → Nat → Byte
  | [], _ => Memory.blank
  | (k, v) :: m, a => if k = a then v else Memory.read m a

/-- Store the byte `v` at index `a`, keeping the canonical form. -/
def Memory.write : Memory → Nat → Byte → Memory
  | [], a, v => if v = Memory.blank then [] else [(a, v)]
  | (k, w) :: m, a, v =>
    if a < k then (if v = Memory.blank then (k, w) :: m else (a, v) :: (k, w) :: m)
    else if a = k then (if v = Memory.blank then m else (a, v) :: m)
    else (k, w) :: Memory.write m a v

/-- Store a list of bytes at consecutive indices. -/
def Memory.load (m : Memory) (a : Nat) : List Byte → Memory
  | [] => m
  | v :: vs => Memory.load (m.write a v) (a + 1) vs

/-- The canonical form, every index at least `lo` and below `hi`. -/
def Memory.wfIn (lo hi : Nat) : Memory → Bool
  | [] => true
  | (k, v) :: m => decide (lo ≤ k) && decide (k < hi) && (v != Memory.blank) && Memory.wfIn (k + 1) hi m

/-- The canonical form of an array of `size` bytes. -/
def Memory.wf (size : Nat) (m : Memory) : Bool := Memory.wfIn 0 size m

end Sys2Proof.Machine
end

