-- ==== Sys2Proof/Machine/Registers.lean ====
section
/-! DEFINITION. The accessors of the main core's registers and status (spec/10_state.md R20 to R36), the three ways to
request an exception (spec/60_exceptions.md R505 to R507), free values and the host's output. -/

namespace Sys2Proof.Machine

/-! ## General registers -/

/-- `R[n]` (R10). -/
def Regs.get (r : Regs) : Reg → Word
  | .r0 => r.r0
  | .r1 => r.r1
  | .r2 => r.r2
  | .r3 => r.r3
  | .r4 => r.r4
  | .r5 => r.r5
  | .r6 => r.r6
  | .r7 => r.r7

/-- `R[n] <- v` (R10). -/
def Regs.set (r : Regs) (n : Reg) (v : Word) : Regs :=
  match n with
  | .r0 => { r with r0 := v }
  | .r1 => { r with r1 := v }
  | .r2 => { r with r2 := v }
  | .r3 => { r with r3 := v }
  | .r4 => { r with r4 := v }
  | .r5 => { r with r5 := v }
  | .r6 => { r with r6 := v }
  | .r7 => { r with r7 := v }

/-- The register after `n` in a pair `R[n]`, `R[n+1]` (R240, R325); R[7] has none and stands for itself. -/
def nextReg : Reg → Reg
  | .r0 => .r1
  | .r1 => .r2
  | .r2 => .r3
  | .r3 => .r4
  | .r4 => .r5
  | .r5 => .r6
  | .r6 => .r7
  | .r7 => .r7

/-- Whether `n` can open the register pair of a word multiply or divide (R240, R242). -/
def opensPair : Reg → Bool
  | .r0 | .r2 | .r4 | .r6 => true
  | .r1 | .r3 | .r5 | .r7 => false

/-- `R[n]` of a state. -/
def State.reg (s : State) (n : Reg) : Word := s.cpu.regs.get n

/-- `R[n] <- v`. -/
def State.setReg (n : Reg) (v : Word) (s : State) : State := { s with cpu.regs := s.cpu.regs.set n v }

/-- `v mod 2^W`: a value narrowed to the operand width. -/
def narrow (sz : Size) (v : Word) : Word :=
  match sz with
  | .byte => v &&& 0x00FF#16
  | .word => v

/-- `Reg_W(n)` as a source (R10, R22): a byte read ignores bits 15:8. -/
def State.regW (s : State) (sz : Size) (n : Reg) : Word := narrow sz (s.reg n)

/-- What `Reg_W(n) <- v` leaves in the register (R22): a byte write keeps bits 15:8. -/
def mergeReg (sz : Size) (old v : Word) : Word :=
  match sz with
  | .byte => (old &&& 0xFF00#16) ||| (v &&& 0x00FF#16)
  | .word => v

/-- `Reg_W(n) <- v` (R10, R22). -/
def State.setRegW (sz : Size) (n : Reg) (v : Word) (s : State) : State := s.setReg n (mergeReg sz (s.reg n) v)

/-- `PC <- v`. -/
def State.setPc (v : Word) (s : State) : State := { s with cpu.pc := v }

/-- `CP <- v`. -/
def State.setCp (v : Byte) (s : State) : State := { s with cpu.cp := v }

/-! ## The status register -/

/-- The four condition flags of SR (R25). -/
structure Nzvc where
  n : Bool
  z : Bool
  v : Bool
  c : Bool
  deriving DecidableEq, Repr

/-- The flags in their places: N bit 3, Z bit 2, V bit 1, C bit 0 (R25). -/
def Nzvc.bits (f : Nzvc) : Word :=
  (bit 16 f.n <<< 3) ||| (bit 16 f.z <<< 2) ||| (bit 16 f.v <<< 1) ||| bit 16 f.c

/-- The flags of a state (R25). -/
def State.nzvc (s : State) : Nzvc where
  n := s.cpu.sr.getLsbD 3
  z := s.cpu.sr.getLsbD 2
  v := s.cpu.sr.getLsbD 1
  c := s.cpu.sr.getLsbD 0

/-- Write the four flags; T, I and the unimplemented bits stay (R25). -/
def State.setNzvc (f : Nzvc) (s : State) : State := { s with cpu.sr := (s.cpu.sr &&& 0xFFF0#16) ||| f.bits }

/-- `SR.T` (R25). -/
def State.srT (s : State) : Bool := s.cpu.sr.getLsbD 15

/-- `SR.I` (R25). -/
def State.srI (s : State) : BitVec 3 := s.cpu.sr.extractLsb' 8 3

/-- A write of SR as a whole (R26). -/
def State.setSr (v : Word) (s : State) : State := { s with cpu.sr := v &&& 0x870F#16 }

/-- A write of CCR (R26). -/
def State.setCcr (b : Byte) (s : State) : State :=
  { s with cpu.sr := (s.cpu.sr &&& 0xFF00#16) ||| (b.setWidth 16 &&& 0x000F#16) }

/-- `SR.T <- 0` (R520). -/
def State.clearT (s : State) : State := { s with cpu.sr := s.cpu.sr &&& 0x7FFF#16 }

/-- `SR.I <- level` (R520). -/
def State.setI (level : BitVec 3) (s : State) : State :=
  { s with cpu.sr := (s.cpu.sr &&& 0xF8FF#16) ||| (level.setWidth 16 <<< 8) }

/-! ## Requests -/

/-- `Prio` of R505. -/
def ExcKind.prio : ExcKind → Nat
  | .addressError => 3
  | .invalidInstruction => 2
  | .trace => 1

/-- `Prio` of the slot's content (R505): an empty slot has 0. -/
def slotPrio : Option ExcKind → Nat
  | none => 0
  | some k => k.prio

/-- What the slot holds after a request (R505): the higher priority, an equal one changes nothing. -/
def slotAfter (k : ExcKind) (slot : Option ExcKind) : Option ExcKind :=
  if slotPrio slot < k.prio then some k else slot

/-- `RequestException(k)` (R505). -/
def requestException (k : ExcKind) (s : State) : State := { s with cpu.excSlot := slotAfter k s.cpu.excSlot }

/-- `RequestTrap(n)` (R506). -/
def requestTrap (n : BitVec 4) (s : State) : State :=
  { s with cpu.trapPending := s.cpu.trapPending ||| (1#16 <<< n.toNat) }

/-- The bit of `int_pending` that belongs to a source (R36, R530): ascending vector number, NMI last. -/
def Source.index : Source → Nat
  | .irq0 => 0
  | .irq1 => 1
  | .frt0Ocia => 2
  | .frt0Ocib => 3
  | .frt0Fovi => 4
  | .frt1Ocia => 5
  | .frt1Ocib => 6
  | .frt1Fovi => 7
  | .frt2Ocia => 8
  | .frt2Ocib => 9
  | .frt2Fovi => 10
  | .tmrCmia => 11
  | .tmrCmib => 12
  | .tmrOvi => 13
  | .sciEri => 14
  | .sciRxi => 15
  | .sciTxi => 16
  | .adi => 17
  | .nmi => 18

/-- The pending table with one source's bit set to `b`. -/
def pendingWith (src : Source) (b : Bool) (t : BitVec 19) : BitVec 19 :=
  if b then t ||| (1#19 <<< src.index) else t &&& ~~~(1#19 <<< src.index)

/-- `int_pending[s]`. -/
def State.pending (s : State) (src : Source) : Bool := s.cpu.intPending.getLsbD src.index

/-- `SetLine(s, b)` (R507). -/
def setLine (src : Source) (b : Bool) (s : State) : State :=
  { s with cpu.intPending := pendingWith src b s.cpu.intPending }

/-! ## Free values and the host -/

/-- Count `n` free values as drawn (notes/assumptions/9.md). -/
def State.drawn (n : Nat) (s : State) : State := { s with model.draws := s.model.draws + n }

/-- Hand something to the host (R670; notes/assumptions/18.md). -/
def State.emit (o : HostOutput) (s : State) : State := { s with model.hostOut := o :: s.model.hostOut }

end Sys2Proof.Machine
end

