-- ==== Sys2Proof/Machine/Flags.lean ====
section
/-! DEFINITION. Every result and flag computation of MAIN16: the two ALU helpers (spec/40_fetch_decode_dispatch.md R175,
R176), logic flags (R179), multiply and divide (42_arithmetic.md R240, R242), shifts and rotates (43_logic_shift_bit.md R270
to R277), bits (R280), conditions (44_control_transfer.md R300). -/

namespace Sys2Proof.Machine

/-- A W-bit result in the low bits of a word, and the four flags. -/
structure Alu where
  r : Word
  f : Nzvc
  deriving DecidableEq, Repr

/-- `signed_W(v)` (R9). -/
def signedOf (w v : Nat) : Int := if v < 2 ^ (w - 1) then (v : Int) else (v : Int) - 2 ^ w

/-- Outside the signed range of W bits (R175, R176). -/
def outOfRange (w : Nat) (s : Int) : Bool := decide (s < -(2 ^ (w - 1))) || decide (2 ^ (w - 1) - 1 < s)

/-- `AddCommon(a, b, cin, W)` (R175). -/
def addCommon (sz : Size) (a b : Word) (cin : Bool) : Alu :=
  let w := sz.bits
  let x := a.toNat % 2 ^ w
  let y := b.toNat % 2 ^ w
  let u := x + y + cin.toNat
  let r := u % 2 ^ w
  { r := BitVec.ofNat 16 r,
    f := { n := r.testBit (w - 1),
           z := r == 0,
           v := outOfRange w (signedOf w x + signedOf w y + cin.toNat),
           c := decide (2 ^ w ≤ u) } }

/-- `SubCommon(a, b, cin, W)` (R176): `a - b - cin`. -/
def subCommon (sz : Size) (a b : Word) (cin : Bool) : Alu :=
  let w := sz.bits
  let x := a.toNat % 2 ^ w
  let y := b.toNat % 2 ^ w
  let u : Int := (x : Int) - y - cin.toNat
  let r := (u % 2 ^ w).toNat
  { r := BitVec.ofNat 16 r,
    f := { n := r.testBit (w - 1),
           z := r == 0,
           v := outOfRange w (signedOf w x - signedOf w y - cin.toNat),
           c := decide (u < 0) } }

/-- `v[W-1]`. -/
def topBit (sz : Size) (v : Word) : Bool := v.getLsbD (sz.bits - 1)

/-- Whether the W-bit value is 0. -/
def isZero (sz : Size) (v : Word) : Bool := narrow sz v == 0#16

/-- `LogicFlags_W(r)` (R179): C is kept. -/
def logicFlags (sz : Size) (r : Word) (old : Nzvc) : Nzvc :=
  { n := topBit sz r, z := isZero sz r, v := false, c := old.c }

/-- N and Z from the value, V and C cleared: TST, TAS, EXTS, EXTU (R244 to R250). -/
def testFlags (sz : Size) (r : Word) : Nzvc := { n := topBit sz r, z := isZero sz r, v := false, c := false }

/-- `sext_16` of a byte (R9). -/
def sext16 (b : Byte) : Word := b.signExtend 16

/-- A source as 16 bits for ADDS and SUBS (R226, R229): a byte is sign-extended. -/
def extendSource (sz : Size) (v : Word) : Word :=
  match sz with
  | .byte => sext16 v.lo
  | .word => v

/-- The two bytes of a word exchanged (R204). -/
def swapBytes (v : Word) : Word := Word.ofBytes v.lo v.hi

/-! ## Multiply and divide -/

/-- The product of MULXU.B (R240). -/
def mulByte (m s : Word) : Alu :=
  let p := (narrow .byte m).toNat * (narrow .byte s).toNat
  { r := BitVec.ofNat 16 p, f := { n := p.testBit 15, z := p == 0, v := false, c := false } }

/-- The 32-bit product of MULXU.W (R240): high word, low word, flags. -/
structure WideProduct where
  hi : Word
  lo : Word
  f  : Nzvc
  deriving DecidableEq, Repr

/-- The product of MULXU.W (R240). -/
def mulWord (m s : Word) : WideProduct :=
  let p := m.toNat * s.toNat
  { hi := BitVec.ofNat 16 (p / 2 ^ 16), lo := BitVec.ofNat 16 p,
    f := { n := p.testBit 31, z := p == 0, v := false, c := false } }

/-- The dividend, quotient limit and divisor of DIVXU decide one of three outcomes (R242). -/
inductive Division where
  | byZero
  | overflow
  | done (q r : Nat)
  deriving DecidableEq, Repr

/-- The division of R242, unsigned and truncating. -/
def divide (dividend divisor qmax : Nat) : Division :=
  if divisor = 0 then .byZero
  else if qmax < dividend / divisor then .overflow
  else .done (dividend / divisor) (dividend % divisor)

/-- The flags of a quotient that fits (R242). -/
def quotientFlags (sz : Size) (q : Nat) : Nzvc := { n := q.testBit (sz.bits - 1), z := q == 0, v := false, c := false }

/-! ## Shifts and rotates: one position (R178) -/

/-- The result and the flags of a shift: N and Z from the result, V and C as the instruction says. -/
def shifted (sz : Size) (r : Word) (v c : Bool) : Alu :=
  { r := r, f := { n := topBit sz r, z := isZero sz r, v := v, c := c } }

/-- `(v << 1) & mask_W`. -/
def shiftLeft (sz : Size) (v : Word) : Word := narrow sz (v <<< 1)

/-- `b << m`, m the top bit index. -/
def atTop (sz : Size) (b : Bool) : Word := bit 16 b <<< (sz.bits - 1)

/-- SHAL (R270): V says that the sign changed. -/
def shalOp (sz : Size) (v : Word) : Alu :=
  shifted sz (shiftLeft sz v) (topBit sz v != topBit sz (shiftLeft sz v)) (topBit sz v)

/-- SHAR (R271). -/
def sharOp (sz : Size) (v : Word) : Alu := shifted sz ((v >>> 1) ||| atTop sz (topBit sz v)) false (v.getLsbD 0)

/-- SHLL (R272). -/
def shllOp (sz : Size) (v : Word) : Alu := shifted sz (shiftLeft sz v) false (topBit sz v)

/-- SHLR (R273). -/
def shlrOp (sz : Size) (v : Word) : Alu := shifted sz (v >>> 1) false (v.getLsbD 0)

/-- ROTL (R274). -/
def rotlOp (sz : Size) (v : Word) : Alu := shifted sz (shiftLeft sz v ||| bit 16 (topBit sz v)) false (topBit sz v)

/-- ROTR (R275). -/
def rotrOp (sz : Size) (v : Word) : Alu := shifted sz ((v >>> 1) ||| atTop sz (v.getLsbD 0)) false (v.getLsbD 0)

/-- ROTXL (R276): `c0` is C before. -/
def rotxlOp (sz : Size) (c0 : Bool) (v : Word) : Alu := shifted sz (shiftLeft sz v ||| bit 16 c0) false (topBit sz v)

/-- ROTXR (R277): `c0` is C before. -/
def rotxrOp (sz : Size) (c0 : Bool) (v : Word) : Alu := shifted sz ((v >>> 1) ||| atTop sz c0) false (v.getLsbD 0)

/-! ## Bits -/

/-- The bit number from an immediate (R280). -/
def bitNumberI (sz : Size) (b : BitVec 4) : Nat := b.toNat % sz.bits

/-- The bit number from a register's low four bits (R280). -/
def bitNumberR (sz : Size) (v : Word) : Nat := (v.extractLsb' 0 4).toNat % sz.bits

/-- `Z <- NOT v[n]`, the other flags unchanged (R280). -/
def bitFlags (v : Word) (n : Nat) (old : Nzvc) : Nzvc := { old with z := !v.getLsbD n }

/-! ## Conditions -/

/-- `Cond(cc)` (R300). -/
def cond (cc : Nat) (f : Nzvc) : Bool :=
  match cc with
  | 0 => true
  | 1 => false
  | 2 => !f.c && !f.z
  | 3 => f.c || f.z
  | 4 => !f.c
  | 5 => f.c
  | 6 => !f.z
  | 7 => f.z
  | 8 => !f.v
  | 9 => f.v
  | 10 => !f.n
  | 11 => f.n
  | 12 => f.n == f.v
  | 13 => f.n != f.v
  | 14 => !f.z && f.n == f.v
  | _ => f.z || f.n != f.v

end Sys2Proof.Machine
end

