-- ==== Sys2Proof/Machine/PcmEngine.lean ====
section
/-! DEFINITION. The PCM voice engine (spec/60_exceptions.md R630 to R641): its schedule, its two arithmetic primitives, the
voice pipeline over the open functions of `Config`, and its register window. -/

namespace Sys2Proof.Machine

/-! ## Arithmetic primitives -/

/-- `AddClip20(a, b, cin)` (R632). -/
def addClip20 (a b : BitVec 20) (cin : Bool) : BitVec 20 :=
  let s := a.toInt + b.toInt + (if cin then 1 else 0)
  if 0x7FFFF < s then 0x7FFFF#20
  else if s < -0x80000 then 0x80000#20
  else BitVec.ofInt 20 s

/-- `Multi(a, b)` (R633). -/
def multi (a : BitVec 20) (b : BitVec 8) : Int := max (-16777216) (min 16777215 (a.toInt * b.toInt))

/-- `Clamp16(x)` (R631). -/
def clamp16 (x : Int) : Int := max (-32768) (min 32767 x)

/-! ## The voice pipeline -/

/-- What the open functions of a voice may read (R634). -/
def Pcm.env (m : Pcm) : PcmEnv := ⟨m.waveRom, m.waveBank, m.envCounter⟩

/-- `WaveNibble(a)` (R641). -/
def waveNibble (e : PcmEnv) (a : BitVec 32) : BitVec 4 :=
  let b := Memory.read e.waveRom (Config.bankMap e.waveBank (a >>> 1))
  if Bool.xor (a.getLsbD 0) Config.evenNibbleIsHigh then b.extractLsb' 4 4 else b.extractLsb' 0 4

/-- Step 2 of R634: `k` new nibbles, starting at position `j`. -/
def newNibbles (e : PcmEnv) : Nat → Nat → PcmVoice → PcmVoice
  | 0, _, v => v
  | k + 1, j, v =>
    newNibbles e k (j + 1) (Config.dpcmDecode e { v with nibble := waveNibble e (Config.nibbleAddr e v j) })

/-- `par.env_rate[e]`. -/
def voiceRate (v : PcmVoice) (e : Fin 3) : Word :=
  match e with
  | 0 => v.envRate0
  | 1 => v.envRate1
  | 2 => v.envRate2

/-- Step 4 of R634 for one envelope. -/
def envelope (e : PcmEnv) (v : PcmVoice) (i : Fin 3) : PcmVoice :=
  if Config.envDue (voiceRate v i) e.envCounter then Config.envStep e v i else v

/-- What `VoiceStep(n)` gives: the voice after it, its share of the two sums, and `done`. -/
structure VoiceOut where
  voice : PcmVoice
  left  : Int
  right : Int
  done  : Bool
  deriving DecidableEq, Repr

/-- `VoiceStep(n)` up to step 5 (R634). -/
def voiceStep (e : PcmEnv) (v : PcmVoice) : VoiceOut :=
  let g := Config.addrGen e v
  let v2 := newNibbles e g.2.1.val 1 g.1
  let v3 := Config.filterStep e v2
  let v4 := envelope e (envelope e (envelope e v3 0) 1) 2
  let m := Config.panMix e v4
  ⟨m.1, m.2.1, m.2.2, g.2.2⟩

/-- `VoiceOff(n)` (R637). -/
def voiceOff (v : PcmVoice) : PcmVoice :=
  { v with acc := 0#32, envLevel0 := 0#16, envLevel1 := 0#16, envLevel2 := 0#16, nibble := 0#4 }

/-! ## One tick -/

/-- The slot `n`. -/
def Pcm.voice (m : Pcm) (n : Nat) : PcmVoice := m.voices.getD n PcmVoice.zero

/-- `VoiceIrq(n)` (R638) when `done`; a completion while one is in flight is lost. -/
def Pcm.voiceIrq (n : Nat) (done : Bool) (m : Pcm) : Pcm :=
  let fires := done && (m.voice n).irqEn && !m.voiceIrqPending
  { m with voiceIrqPending := m.voiceIrqPending || fires,
           voiceIrqChannel := if fires then BitVec.ofNat 5 n else m.voiceIrqChannel }

/-- `VoiceStep(n)` (R634), steps 1 to 6. -/
def Pcm.stepVoice (m : Pcm) (n : Nat) : Pcm :=
  let o := voiceStep m.env (m.voice n)
  Pcm.voiceIrq n o.done
    { m with voices := m.voices.set n o.voice, accLeft := m.accLeft + o.left, accRight := m.accRight + o.right }

/-- The loop of R631 over the voices `n`, `n + 1`, ..., `n + k - 1`. -/
def Pcm.stepVoices (active : BitVec 32) : Nat → Nat → Pcm → Pcm
  | 0, _, m => m
  | k + 1, n, m => Pcm.stepVoices active k (n + 1) (if active.getLsbD n then m.stepVoice n else m)

/-- `VoiceOff` for every committed voice that is no longer pending (R631), slots `n` and up. -/
def offFrom (committed pending : BitVec 32) : Nat → List PcmVoice → List PcmVoice
  | _, [] => []
  | n, v :: vs =>
    (if committed.getLsbD n && !pending.getLsbD n then voiceOff v else v) :: offFrom committed pending (n + 1) vs

/-- How many voices one tick looks at: 0 to min(active_voice_count, NVOICES - 1) (R631). -/
def Pcm.voicesPerTick (p : Params) (m : Pcm) : Nat := min m.activeVoiceCount.toNat (p.voiceSlots.count - 1) + 1

/-- The engine after the voice loop of one tick (R631). -/
def Pcm.mixed (p : Params) (m : Pcm) : Pcm :=
  Pcm.stepVoices (m.keyonCommitted &&& m.keyonPending) (m.voicesPerTick p) 0 { m with accLeft := 0, accRight := 0 }

/-- The engine after one tick (R631, without the sample it hands out). -/
def Pcm.tick (p : Params) (m : Pcm) : Pcm :=
  let m1 := m.mixed p
  { m1 with voices := offFrom m1.keyonCommitted m1.keyonPending 0 m1.voices,
            keyonCommitted := m1.keyonPending,
            envCounter := m1.envCounter + 1#14 }

/-- The sample of a tick (R631), from the sums it leaves. -/
def Pcm.sample (m : Pcm) : HostOutput :=
  .sample (clamp16 (m.accLeft >>> Config.pcmOutShift)) (clamp16 (m.accRight >>> Config.pcmOutShift))

/-- The cycles one tick spans (R630). -/
def Pcm.period (m : Pcm) : Nat := (m.activeVoiceCount.toNat + 1) * 25

/-- `PcmTick()` and the advance of `pcm_cycles` (R630, R631). IRQ0 is raised when the tick put a voice interrupt in flight
(R638). -/
def pcmTick (s : State) : State :=
  let m := s.pcm.tick s.params
  { s with pcm := { m with pcmCycles := m.pcmCycles + m.period },
           cpu.intPending :=
             if m.voiceIrqPending && !s.pcm.voiceIrqPending then pendingWith .irq0 true s.cpu.intPending
             else s.cpu.intPending,
           model.hostOut := m.sample :: s.model.hostOut }

/-- `n` ticks. -/
def pcmTicks : Nat → State → State
  | 0, s => s
  | n + 1, s => pcmTicks n (pcmTick s)

/-- How many ticks `PcmUpdate(cycles)` runs (R630): the number of times its loop `while pcm_cycles < cycles` runs
(notes/assumptions/30.md). -/
def pcmTicksDue (m : Pcm) (cycles : Nat) : Nat := (cycles - m.pcmCycles + m.period - 1) / m.period

/-- `PcmUpdate(cycles)` (R630). -/
def pcmUpdate (s : State) : State := pcmTicks (pcmTicksDue s.pcm s.cpu.cycles) s

/-! ## The register window -/

/-- The engine's registers as the open register functions see them. -/
def Pcm.view (m : Pcm) : PcmView := ⟨m.voices, m.keyonCommitted, m.keyonPending, m.waveBank, m.envCounter⟩

/-- The key-on bits that exist: NVOICES of them (R48; notes/assumptions/25.md). -/
def keyonMask (p : Params) : BitVec 32 := BitVec.ofNat 32 (2 ^ p.voiceSlots.count - 1)

/-- A list of exactly NVOICES slots. -/
def slotsOf (p : Params) (vs : List PcmVoice) : List PcmVoice :=
  (List.range p.voiceSlots.count).map fun n => vs.getD n PcmVoice.zero

/-- The engine after `PcmRegRead(r)` (R640): no side effect outside the engine, what it leaves inside is open. -/
def Pcm.afterRegRead (p : Params) (r : BitVec 6) (m : Pcm) : Pcm :=
  let v := Config.pcmRegReadView r m.view
  { m with voices := slotsOf p v.voices,
           keyonCommitted := v.keyonCommitted &&& keyonMask p,
           keyonPending := v.keyonPending &&& keyonMask p,
           waveBank := v.waveBank,
           envCounter := v.envCounter }

/-- The engine after `PcmRegWrite(r, v)` (R640): voice fields and `keyon_pending`, nothing else. -/
def Pcm.afterRegWrite (p : Params) (r : BitVec 6) (b : Byte) (m : Pcm) : Pcm :=
  let v := Config.pcmRegWriteView r b m.view
  { m with voices := slotsOf p v.voices, keyonPending := v.keyonPending &&& keyonMask p }

/-- The status byte of register 0x3E (R640). -/
def Pcm.status (m : Pcm) : Byte := (bit 8 m.voiceIrqPending <<< 7) ||| m.voiceIrqChannel.setWidth 8

/-- A read of PCM register `r` (R640). -/
def pcmRead (r : BitVec 6) (s : State) : Byte × State :=
  match r.toNat with
  | 0x3C => (s.pcm.activeVoiceCount.setWidth 8, s)
  | 0x3D => (s.pcm.waveBank.lo, s)
  | 0x3E => (s.pcm.status, setLine .irq0 false { s with pcm.voiceIrqPending := false })
  | 0x3F => (s.params.fill, s)
  | _ => (Config.pcmRegRead r s.pcm.view, { s with pcm := s.pcm.afterRegRead s.params r })

/-- A write of PCM register `r` (R640). -/
def pcmWrite (r : BitVec 6) (v : Byte) (s : State) : State :=
  match r.toNat with
  | 0x3C => { s with pcm.activeVoiceCount := v.extractLsb' 0 5 }
  | 0x3D => { s with pcm.waveBank := v.setWidth 16 }
  | 0x3E => s
  | 0x3F => s
  | _ => { s with pcm := s.pcm.afterRegWrite s.params r v }

end Sys2Proof.Machine
end

