-- ==== Sys2Proof/Machine/SharedMemory.lean ====
section
/-! DEFINITION. The shared memory with its access flags, the mailboxes, the semaphore, the port latches and the
collision-detect register (spec/60_exceptions.md R605 to R624), seen from both cores. -/

namespace Sys2Proof.Machine

/-- `Flag(i)` (R621). -/
def Link.flag (l : Link) (i : Nat) : Bool := l.acc.getLsbD i

/-- The flags with `Flag(i)` set to `b`. -/
def accWith (i : Nat) (b : Bool) (acc : BitVec 192) : BitVec 192 :=
  if b then acc ||| (1#192 <<< i) else acc &&& ~~~(1#192 <<< i)

/-- `ACC[i]` (R43): flags 8i to 8i + 7. -/
def Link.accByte (l : Link) (i : Nat) : Byte := l.acc.extractLsb' (8 * i) 8

/-- `ACC[i] <- v` (R402). -/
def Link.setAccByte (i : Nat) (v : Byte) (l : Link) : Link :=
  { l with acc := (l.acc &&& ~~~(0xFF#192 <<< (8 * i))) ||| (v.setWidth 192 <<< (8 * i)) }

/-- `ramdir[0]`: 0, the sub core produces; 1, the main core produces (R623). -/
def Link.mainProduces (l : Link) : Bool := l.ramdir.getLsbD 0

/-- The event of R609 where `COLLISION_RULE` fires for an access to a shared byte (notes/assumptions/22.md). -/
def Link.collide (p : Params) (a : SharedAccess) (l : Link) : Link :=
  let fires := p.collisionOn && Config.collisionRule a
  { l with collision := orBit0 fires l.collision, intPending := orBit7 fires l.intPending }
where
  /-- `v | 1` if `b` (R609). -/
  orBit0 (b : Bool) (v : Byte) : Byte := if b then v ||| 0x01#8 else v
  /-- Bit 7 of `sub_int_pending` set if `b` (R592, R609). -/
  orBit7 (b : Bool) (v : Byte) : Byte := if b then v ||| 0x80#8 else v

/-- `MainShRead(i)` (R622). -/
def mainShRead (i : Nat) (s : State) : Byte × State :=
  let l := s.link.collide s.params ⟨.main, false, i⟩
  (l.shram.read i, { s with link := { l with acc := if l.mainProduces then l.acc else accWith i false l.acc } })

/-- `MainShWrite(i, v)` (R622). -/
def mainShWrite (i : Nat) (v : Byte) (s : State) : State :=
  let l := s.link.collide s.params ⟨.main, true, i⟩
  { s with link := { l with shram := l.shram.write i v,
                            acc := if l.mainProduces then accWith i true l.acc else l.acc } }

/-- `SubShRead(i)` (R621). -/
def subShRead (i : Nat) (s : State) : Byte × State :=
  let l := s.link.collide s.params ⟨.sub, false, i⟩
  (l.shram.read i, { s with link := { l with acc := if l.mainProduces then accWith i false l.acc else l.acc } })

/-- `SubShWrite(i, v)` (R621). -/
def subShWrite (i : Nat) (v : Byte) (s : State) : State :=
  let l := s.link.collide s.params ⟨.sub, true, i⟩
  { s with link := { l with shram := l.shram.write i v,
                            acc := if l.mainProduces then l.acc else accWith i true l.acc } }

/-- `sub_int_pending[j] <- b`. -/
def Link.setPending (j : Nat) (b : Bool) (l : Link) : Link :=
  { l with intPending := if b then l.intPending ||| (1#8 <<< j) else l.intPending &&& ~~~(1#8 <<< j) }

/-- A main-core read of byte `i` of the shared window (R620). -/
def windowRead (i : Nat) (s : State) : Byte × State :=
  if i < 0xC0 then mainShRead i s
  else if i < 0xD8 then (s.link.accByte (i - 0xC0), s)
  else if i = 0xE0 then (s.link.mboxS2m, s)
  else if i = 0xE1 then (s.link.semaphore, s)
  else if i = 0xE2 then (s.link.latchS2m, s)
  else if i = 0xE3 then (s.link.ramdir, s)
  else (s.params.fill, s)

/-- A main-core write of byte `i` of the shared window (R620, R605). -/
def windowWrite (i : Nat) (v : Byte) (s : State) : State :=
  if i < 0xC0 then mainShWrite i v s
  else if i = 0xE0 then { s with link := Link.setPending 6 true { s.link with mboxM2s := v } }
  else if i = 0xE1 then { s with link.semaphore := v }
  else if i = 0xE2 then { s with link.latchM2s := v }
  else s

end Sys2Proof.Machine
end

