-- ==== Sys2Proof/Machine/Timers.lean ====
section
/-! DEFINITION. The four timers (spec/60_exceptions.md R570 to R580) and their interrupt lines. -/

namespace Sys2Proof.Machine

/-- The timer `FRT[k]`. -/
def Dev.frt (d : Dev) : FrtId → Frt
  | .k0 => d.frt0
  | .k1 => d.frt1
  | .k2 => d.frt2

/-- Replace `FRT[k]`. -/
def Dev.setFrt (d : Dev) (k : FrtId) (t : Frt) : Dev :=
  match k with
  | .k0 => { d with frt0 := t }
  | .k1 => { d with frt1 := t }
  | .k2 => { d with frt2 := t }

/-- Set bit `i` of a byte if `b`. -/
def orBit (i : Nat) (b : Bool) (v : Byte) : Byte := v ||| (bit 8 b <<< i)

/-! ## The status registers -/

/-- The flag bits of a free-running timer's TCSR: OCFB 6, OCFA 5, OVF 4 (R38, R574). -/
def frtFlags : Byte := 0x70#8

/-- The flag bits of the 8-bit timer's TCSR: CMFB 7, CMFA 6, OVF 5 (R38, R574). -/
def tmrFlags : Byte := 0xE0#8

/-- The flags a write of `v` clears: a 0 is written and the shadow bit is set (R575). -/
def clearedFlags (flags shadow v : Byte) : Byte := flags &&& shadow &&& ~~~v

/-- TCSR after a write of `v` (R575): flags cleared as above, bits 3:0 stored, the remaining bit reads 0 (R38). -/
def tcsrAfterWrite (flags tcsr shadow v : Byte) : Byte :=
  (tcsr &&& flags &&& ~~~(clearedFlags flags shadow v)) ||| (v &&& 0x0F#8)

/-- Reading TCSR sets the shadow bit of every flag that is 1 (R574). -/
def Frt.afterRead (t : Frt) : Frt := { t with rdShadow := t.rdShadow ||| (t.tcsr &&& frtFlags) }

/-- Writing TCSR (R575). -/
def Frt.writeTcsr (v : Byte) (t : Frt) : Frt :=
  { t with tcsr := tcsrAfterWrite frtFlags t.tcsr t.rdShadow v,
           rdShadow := t.rdShadow &&& ~~~(clearedFlags frtFlags t.rdShadow v) }

/-- Reading TCSR of the 8-bit timer (R574). -/
def Tmr.afterRead (t : Tmr) : Tmr := { t with rdShadow := t.rdShadow ||| (t.tcsr &&& tmrFlags) }

/-- Writing TCSR of the 8-bit timer (R575). -/
def Tmr.writeTcsr (v : Byte) (t : Tmr) : Tmr :=
  { t with tcsr := tcsrAfterWrite tmrFlags t.tcsr t.rdShadow v,
           rdShadow := t.rdShadow &&& ~~~(clearedFlags tmrFlags t.rdShadow v) }

/-! ## Ticks -/

/-- `FrtMask` (R571), from CKS = TCR[1:0]. -/
def frtMask (tcr : Byte) : Nat :=
  match (tcr.extractLsb' 0 2).toNat with
  | 0 => 0x03
  | 1 => 0x07
  | 2 => 0x1F
  | _ => 0x01

/-- `TmrMask` (R576), from CKS = TCR[2:0]; none where the timer is stopped. -/
def tmrMask (v : Variant) (tcr : Byte) : Option Nat :=
  match (tcr.extractLsb' 0 3).toNat with
  | 0 | 4 => none
  | 1 => some 0x007
  | 2 => some 0x03F
  | 3 => some 0x3FF
  | _ =>
    match v with
    | .mk1 => some 0x003
    | .mk2 => some 0x000

/-- `FrtTick` (R572). -/
def Frt.tick (cclra : Bool) (t : Frt) : Frt :=
  let n := t.frc.toNat + 1
  let frc1 := t.frc + 1#16
  let matchA := frc1 == t.ocra
  let frc2 := if matchA && cclra && t.tcsr.getLsbD 0 then 0#16 else frc1
  let matchB := frc2 == t.ocrb
  { t with frc := frc2,
           tcsr := orBit 6 matchB (orBit 5 matchA (orBit 4 (n == 0x10000) t.tcsr)) }

/-- `TmrTick` (R577); CCLR = TCR[4:3]. -/
def Tmr.tick (t : Tmr) : Tmr :=
  let n := t.tcnt.toNat + 1
  let cnt := t.tcnt + 1#8
  let a := cnt == t.tcora
  let b := cnt == t.tcorb
  let cclr := t.tcr.extractLsb' 3 2
  { t with tcnt := if (cclr == 1#2 && a) || (cclr == 2#2 && b) then 0#8 else cnt,
           tcsr := orBit 7 b (orBit 6 a (orBit 5 (n == 0x100) t.tcsr)) }

/-- Whether timer clock `t` ticks a timer of this mask (R570). -/
def clockTicks (t mask : Nat) : Bool := Nat.land t mask == 0

/-- The timers after timer clock `t` (R570, without the lines). -/
def Dev.clock (p : Params) (d : Dev) : Dev :=
  let t := d.tclk
  { d with frt0 := if clockTicks t (frtMask d.frt0.tcr) then d.frt0.tick p.frtCclra else d.frt0,
           frt1 := if clockTicks t (frtMask d.frt1.tcr) then d.frt1.tick p.frtCclra else d.frt1,
           frt2 := if clockTicks t (frtMask d.frt2.tcr) then d.frt2.tick p.frtCclra else d.frt2,
           tmr :=
             match tmrMask p.variant d.tmr.tcr with
             | none => d.tmr
             | some m => if clockTicks t m then d.tmr.tick else d.tmr,
           tclk := t + 1 }

/-! ## Lines -/

/-- Flag AND enable for compare A, compare B and overflow of a free-running timer (R547, R579): TCSR 5 with TCR 5, 6 with
6, 4 with 4. -/
def Frt.line (t : Frt) (i : Nat) : Bool := t.tcsr.getLsbD i && t.tcr.getLsbD i

/-- Flag AND enable of the 8-bit timer (R548, R579): CMFA 6, CMFB 7, OVF 5. -/
def Tmr.line (t : Tmr) (i : Nat) : Bool := t.tcsr.getLsbD i && t.tcr.getLsbD i

/-- The lines of R579. -/
def Dev.lines (d : Dev) : List (Source × Bool) :=
  [(.frt0Ocia, d.frt0.line 5), (.frt0Ocib, d.frt0.line 6), (.frt0Fovi, d.frt0.line 4),
   (.frt1Ocia, d.frt1.line 5), (.frt1Ocib, d.frt1.line 6), (.frt1Fovi, d.frt1.line 4),
   (.frt2Ocia, d.frt2.line 5), (.frt2Ocib, d.frt2.line 6), (.frt2Fovi, d.frt2.line 4),
   (.tmrCmia, d.tmr.line 6), (.tmrCmib, d.tmr.line 7), (.tmrOvi, d.tmr.line 5)]

/-- `TimerLines()` (R579). -/
def timerLines (s : State) : State :=
  { s with cpu.intPending := s.dev.lines.foldl (fun t l => pendingWith l.1 l.2 t) s.cpu.intPending }

/-- `TimerClock(tclk); tclk <- tclk + 1` (R570). -/
def timerClock (s : State) : State := timerLines { s with dev := s.dev.clock s.params }

/-- `n` timer clocks. -/
def timerClocks : Nat → State → State
  | 0, s => s
  | n + 1, s => timerClocks n (timerClock s)

/-- How many clocks `TimerUpdate(cycles)` processes (R570): the number of times its loop `while tclk * TIMER_DIV < cycles`
runs (notes/assumptions/30.md). -/
def timerClocksDue (p : Params) (tclk cycles : Nat) : Nat := (cycles + p.timerDiv - 1) / p.timerDiv - tclk

/-- `TimerUpdate(cycles)` (R570). -/
def timerUpdate (s : State) : State := timerClocks (timerClocksDue s.params s.dev.tclk s.cpu.cycles) s

end Sys2Proof.Machine
end

