-- ==== Sys2Proof/Machine/Bus.lean ====
section
/-! DEFINITION. The main core's bus: the address map `MEMMAP` (spec/20_memory.md R83), the device registers (10_state.md R38) and the
total byte accesses `read8` and `write8` (R72). -/

namespace Sys2Proof.Machine

/-! ## Decoding -/

/-- What a bus address names (R83). -/
inductive Target where
  | rom1   (i : Nat)
  | rom2   (i : Nat)
  | ram    (i : Nat)
  | sram   (i : Nat)
  | pcm    (r : BitVec 6)
  | shared (i : Nat)
  | dev    (i : Nat)
  | ext
  | unmapped
  deriving DecidableEq, Repr

/-- The number of bytes or registers of a unit: an index into it is taken modulo this (R37, R83; notes/assumptions/4.md). -/
def unitSize (p : Params) : MapUnit → Nat
  | .rom1 => 0x8000
  | .rom2 => p.rom2Len
  | .ram => 0x400
  | .sram => 0x8000
  | .pcm => 0x40
  | .shared => 0x100
  | .dev => 0x80
  | .ext => 1
  | .unmapped => 1

/-- Byte or register `i` of a unit. -/
def unitTarget (u : MapUnit) (i : Nat) : Target :=
  match u with
  | .rom1 => .rom1 i
  | .rom2 => .rom2 i
  | .ram => .ram i
  | .sram => .sram i
  | .pcm => .pcm (BitVec.ofNat 6 i)
  | .shared => .shared i
  | .dev => .dev i
  | .ext => .ext
  | .unmapped => .unmapped

/-- Whether a row of `MEMMAP` exists on a variant. -/
def windowExists (v : Variant) (w : MapWindow) : Bool :=
  match w.only with
  | none => true
  | some x => x == v

/-- Whether a row of `MEMMAP` applies to the bus address `n`. -/
def windowCovers (v : Variant) (rame : Bool) (n : Nat) (w : MapWindow) : Bool :=
  windowExists v w && decide (w.first ≤ n) && decide (n < w.limit) && (!w.whenRame || rame)

/-- What a bus address names under `MEMMAP` (R83): the first row that applies, else nothing. -/
def busTarget (p : Params) (rame : Bool) (pa : BusAddr) : Target :=
  match p.memMap.find? (windowCovers p.variant rame pa.toNat) with
  | some w => unitTarget w.unit ((pa.toNat - w.base) % unitSize p w.unit)
  | none => .unmapped

/-- `RAMCR.RAME` (R38). -/
def Dev.rame (d : Dev) : Bool := d.ramcr.getLsbD 7

/-- What a bus address names in a state. -/
def State.target (s : State) (pa : BusAddr) : Target := busTarget s.params s.dev.rame pa

/-! ## Device registers -/

/-- The registers of a free-running timer, by their offset in its block (R38). -/
inductive FrtReg where
  | tcr | tcsr | frcH | frcL | ocraH | ocraL | ocrbH | ocrbL
  deriving DecidableEq, Repr

/-- The device registers of R38. -/
inductive DevReg where
  | frt (k : FrtId) (r : FrtReg)
  | tmrTcr | tmrTcsr | tmrTcora | tmrTcorb | tmrTcnt
  | ipra | iprb | iprc | iprd
  | ramcr | p1cr
  | ext
  deriving DecidableEq, Repr

/-- The register at an offset of a free-running timer's block. -/
def frtReg (k : FrtId) (i : Nat) : DevReg :=
  match i with
  | 0 => .frt k .tcr
  | 1 => .frt k .tcsr
  | 2 => .frt k .frcH
  | 3 => .frt k .frcL
  | 4 => .frt k .ocraH
  | 5 => .frt k .ocraL
  | 6 => .frt k .ocrbH
  | 7 => .frt k .ocrbL
  | _ => .ext

/-- The register at offset `i` of the device-register file; every other offset is external (R38). -/
def devReg (i : Nat) : DevReg :=
  match i / 0x10 with
  | 1 => frtReg .k0 (i % 0x10)
  | 2 => frtReg .k1 (i % 0x10)
  | 3 => frtReg .k2 (i % 0x10)
  | _ =>
    match i with
    | 0x50 => .tmrTcr
    | 0x51 => .tmrTcsr
    | 0x52 => .tmrTcora
    | 0x53 => .tmrTcorb
    | 0x54 => .tmrTcnt
    | 0x70 => .ipra
    | 0x71 => .iprb
    | 0x72 => .iprc
    | 0x73 => .iprd
    | 0x79 => .ramcr
    | 0x7C => .p1cr
    | _ => .ext

/-- The byte a timer register reads as (R573, R574, R86). -/
def Frt.get (t : Frt) : FrtReg → Byte
  | .tcr => t.tcr
  | .tcsr => t.tcsr
  | .frcH => t.frc.hi
  | .frcL => t.frc.lo
  | .ocraH => t.ocra.hi
  | .ocraL => t.ocra.lo
  | .ocrbH => t.ocrb.hi
  | .ocrbL => t.ocrb.lo

/-- A timer after a write of one of its registers: each half of a 16-bit register directly (R573, R575, R86). -/
def Frt.put (t : Frt) (r : FrtReg) (v : Byte) : Frt :=
  match r with
  | .tcr => { t with tcr := v }
  | .tcsr => t.writeTcsr v
  | .frcH => { t with frc := Word.ofBytes v t.frc.lo }
  | .frcL => { t with frc := Word.ofBytes t.frc.hi v }
  | .ocraH => { t with ocra := Word.ofBytes v t.ocra.lo }
  | .ocraL => { t with ocra := Word.ofBytes t.ocra.hi v }
  | .ocrbH => { t with ocrb := Word.ofBytes v t.ocrb.lo }
  | .ocrbL => { t with ocrb := Word.ofBytes t.ocrb.hi v }

/-- `ExtRead(pa)`: a byte the host chooses, free (R84, U5; notes/assumptions/9.md). -/
def extRead (s : State) : Byte × State := (Config.freeByte s.model.draws, s.drawn 1)

/-- `ExtWrite(pa, v)` (R84). -/
def extWrite (pa : BusAddr) (v : Byte) (s : State) : State := s.emit (.extWrite pa v)

/-- A read of the device register at `i` (R38, R573, R574). -/
def devRead (i : Nat) (s : State) : Byte × State :=
  match devReg i with
  | .frt k .tcsr => ((s.dev.frt k).tcsr, { s with dev := s.dev.setFrt k (s.dev.frt k).afterRead })
  | .frt k r => ((s.dev.frt k).get r, s)
  | .tmrTcr => (s.dev.tmr.tcr, s)
  | .tmrTcsr => (s.dev.tmr.tcsr, { s with dev.tmr := s.dev.tmr.afterRead })
  | .tmrTcora => (s.dev.tmr.tcora, s)
  | .tmrTcorb => (s.dev.tmr.tcorb, s)
  | .tmrTcnt => (s.dev.tmr.tcnt, s)
  | .ipra => (s.dev.ipra, s)
  | .iprb => (s.dev.iprb, s)
  | .iprc => (s.dev.iprc, s)
  | .iprd => (s.dev.iprd, s)
  | .ramcr => (s.dev.ramcr, s)
  | .p1cr => (s.dev.p1cr, s)
  | .ext => extRead s

/-- A write of the device register at `i`, the bus address being `pa`. After a write of a TCR or a TCSR the lines are
evaluated again (R573, R575). -/
def devWrite (pa : BusAddr) (i : Nat) (v : Byte) (s : State) : State :=
  match devReg i with
  | .frt k .tcr => timerLines { s with dev := s.dev.setFrt k ((s.dev.frt k).put .tcr v) }
  | .frt k .tcsr => timerLines { s with dev := s.dev.setFrt k ((s.dev.frt k).put .tcsr v) }
  | .frt k r => { s with dev := s.dev.setFrt k ((s.dev.frt k).put r v) }
  | .tmrTcr => timerLines { s with dev.tmr.tcr := v }
  | .tmrTcsr => timerLines { s with dev.tmr := s.dev.tmr.writeTcsr v }
  | .tmrTcora => { s with dev.tmr.tcora := v }
  | .tmrTcorb => { s with dev.tmr.tcorb := v }
  | .tmrTcnt => { s with dev.tmr.tcnt := v }
  | .ipra => { s with dev.ipra := v }
  | .iprb => { s with dev.iprb := v }
  | .iprc => { s with dev.iprc := v }
  | .iprd => { s with dev.iprd := v }
  | .ramcr => { s with dev.ramcr := v }
  | .p1cr => { s with dev.p1cr := v }
  | .ext => extWrite pa v s

/-! ## The byte accesses -/

/-- `read8(pa)` (R72): total; the state after it carries the side effects of R82. -/
def read8 (pa : BusAddr) (s : State) : Byte × State :=
  match s.target pa with
  | .rom1 i => (s.mem.rom1.read i, s)
  | .rom2 i => (s.mem.rom2.read i, s)
  | .ram i => (s.mem.ram.read i, s)
  | .sram i => (s.mem.sram.read i, s)
  | .pcm r => pcmRead r s
  | .shared i => windowRead i s
  | .dev i => devRead i s
  | .ext => extRead s
  | .unmapped => (s.params.fill, s)

/-- `write8(pa, v)` (R72): total; a write to ROM or to an unmapped address changes nothing. -/
def write8 (pa : BusAddr) (v : Byte) (s : State) : State :=
  match s.target pa with
  | .rom1 _ => s
  | .rom2 _ => s
  | .ram i => { s with mem.ram := s.mem.ram.write i v }
  | .sram i => { s with mem.sram := s.mem.sram.write i v }
  | .pcm r => pcmWrite r v s
  | .shared i => windowWrite i v s
  | .dev i => devWrite pa i v s
  | .ext => extWrite pa v s
  | .unmapped => s

/-- What `read8` returns, without its side effects: the byte a reader of the state sees at an address. -/
def peek8 (s : State) (pa : BusAddr) : Byte := (read8 pa s).1

end Sys2Proof.Machine
end

