-- ==== Sys2Proof/Machine/Ops.lean ====
section
/-! DEFINITION. The named operations over memory and registers of the main core: word accesses (spec/20_memory.md R74 to
R78), the stack (40_fetch_decode_dispatch.md R170), taking an exception and returning from one (60_exceptions.md R510 to
R530, 45_system_control.md R357). -/

namespace Sys2Proof.Machine

/-! ## Memory -/

/-- `PA(page, off)` (R71): bits 7:4 of the page do not reach the bus. -/
def busAddr (page : Byte) (off : Word) : BusAddr := page.extractLsb' 0 4 ++ off

/-- `pa & 0xFFFFE` (R75). -/
def evenBelow (pa : BusAddr) : BusAddr := pa &&& 0xFFFFE#20

/-- `if pa[0] = 1 then raise AddressError` (R75, R77). -/
def checkAligned (pa : BusAddr) (s : State) : State := if pa.getLsbD 0 then requestException .addressError s else s

/-- `MemRead(pa, 2)` (R75). -/
def memRead16 (pa : BusAddr) (s : State) : Word × State :=
  let h := read8 (evenBelow pa) (checkAligned pa s)
  let l := read8 (evenBelow pa + 1#20) h.2
  (Word.ofBytes h.1 l.1, l.2)

/-- `MemWrite(pa, 2, v)` (R77). -/
def memWrite16 (pa : BusAddr) (v : Word) (s : State) : State :=
  write8 (evenBelow pa + 1#20) v.lo (write8 (evenBelow pa) v.hi (checkAligned pa s))

/-- `MemRead(pa, W/8)` (R74, R75), a byte zero-extended. -/
def memRead (sz : Size) (pa : BusAddr) (s : State) : Word × State :=
  match sz with
  | .byte => ((read8 pa s).1.setWidth 16, (read8 pa s).2)
  | .word => memRead16 pa s

/-- `MemWrite(pa, W/8, v)` (R76, R77). -/
def memWrite (sz : Size) (pa : BusAddr) (v : Word) (s : State) : State :=
  match sz with
  | .byte => write8 pa v.lo s
  | .word => memWrite16 pa v s

/-! ## The stack -/

/-- `Push16(v)` (R170). -/
def push16 (v : Word) (s : State) : State :=
  let sp := s.reg .r7 - 2#16
  memWrite16 (busAddr s.cpu.tp sp) v (s.setReg .r7 sp)

/-- `Pop16()` (R170): R[7] is advanced after the read. -/
def pop16 (s : State) : Word × State :=
  let r := memRead16 (busAddr s.cpu.tp (s.reg .r7)) s
  (r.1, r.2.setReg .r7 (r.2.reg .r7 + 2#16))

/-! ## Taking an exception -/

/-- `PC <- w[15:0]` and `CP <- w[23:16]` from the vector `v` (R78, R503): the four bytes are read in order, the first is
ignored. -/
def loadVector (v : Nat) (s : State) : State :=
  let pa := BitVec.ofNat 20 (4 * v)
  let b0 := read8 pa s
  let b1 := read8 (pa + 1#20) b0.2
  let b2 := read8 (pa + 2#20) b1.2
  let b3 := read8 (pa + 3#20) b2.2
  (b3.2.setCp b1.1).setPc (Word.ofBytes b2.1 b3.1)

/-- The three words of the frame (R520): PC, then `0x00 : CP`, then SR at the lowest address. -/
def pushFrame (s : State) : State :=
  push16 s.cpu.sr (push16 (s.cpu.cp.setWidth 16) (push16 s.cpu.pc s))

/-- `SR.T <- 0`, the mask, `sleep <- 0` (R520); `none` leaves the mask unchanged. -/
def enterStatus (newmask : Option (BitVec 3)) (s : State) : State :=
  let t := s.clearT
  let m := match newmask with
    | none => t
    | some l => t.setI l
  { m with cpu.sleep := false }

/-- `Enter(v, newmask)` (R520): taking an exception or an interrupt. -/
def enter (v : Nat) (newmask : Option (BitVec 3)) (s : State) : State :=
  loadVector v (enterStatus newmask (pushFrame s))

/-- The return from an exception (R357): SR, then the page word, then PC come off the stack, and `suppress` is set. -/
def returnFromException (s : State) : State :=
  let r := pop16 s
  let w := pop16 r.2
  let p := pop16 w.2
  let t := ((p.2.setSr r.1).setCp w.1.lo).setPc p.1
  { t with cpu.suppress := true }

/-! ## The interrupt check -/

/-- The vector of a slot exception (R510). -/
def ExcKind.vector : ExcKind → Nat
  | .addressError => 8
  | .invalidInstruction => 2
  | .trace => 9

/-- The vector of a source (R502, R530). -/
def Source.vector : Source → Nat
  | .irq0 => 32
  | .irq1 => 33
  | .frt0Ocia => 35
  | .frt0Ocib => 36
  | .frt0Fovi => 37
  | .frt1Ocia => 39
  | .frt1Ocib => 40
  | .frt1Fovi => 41
  | .frt2Ocia => 43
  | .frt2Ocib => 44
  | .frt2Fovi => 45
  | .tmrCmia => 46
  | .tmrCmib => 47
  | .tmrOvi => 48
  | .sciEri => 49
  | .sciRxi => 50
  | .sciTxi => 51
  | .adi => 52
  | .nmi => 11

/-- A level field: bits 6:4 of a priority register (R38). -/
def levelHigh (b : Byte) : BitVec 3 := b.extractLsb' 4 3

/-- A level field: bits 2:0 of a priority register (R38). -/
def levelLow (b : Byte) : BitVec 3 := b.extractLsb' 0 3

/-- `Level(s)` (R530), read at check time. NMI's is the forced 7. -/
def Dev.level (d : Dev) : Source → BitVec 3
  | .irq0 => levelHigh d.ipra
  | .irq1 => levelLow d.ipra
  | .frt0Ocia | .frt0Ocib | .frt0Fovi => levelHigh d.iprb
  | .frt1Ocia | .frt1Ocib | .frt1Fovi => levelLow d.iprb
  | .frt2Ocia | .frt2Ocib | .frt2Fovi => levelHigh d.iprc
  | .tmrCmia | .tmrCmib | .tmrOvi => levelLow d.iprc
  | .sciEri | .sciRxi | .sciTxi => levelHigh d.iprd
  | .adi => levelLow d.iprd
  | .nmi => 7#3

/-- `Gate(s)` (R530). -/
def Dev.gate (d : Dev) : Source → Bool
  | .irq0 => d.p1cr.getLsbD 5
  | .irq1 => d.p1cr.getLsbD 6
  | _ => true

/-- The maskable sources in ascending vector number (R530). -/
def maskableSources : List Source :=
  [.irq0, .irq1, .frt0Ocia, .frt0Ocib, .frt0Fovi, .frt1Ocia, .frt1Ocib, .frt1Fovi, .frt2Ocia, .frt2Ocib, .frt2Fovi,
   .tmrCmia, .tmrCmib, .tmrOvi, .sciEri, .sciRxi, .sciTxi, .adi]

/-- A maskable source the check would accept (R510, R512): pending, its gate open, its level above the mask. -/
def State.acceptable (s : State) (src : Source) : Bool :=
  s.pending src && s.dev.gate src && decide (s.srI.toNat < (s.dev.level src).toNat)

/-- One turn of the loop of R510 step 4: a strictly higher level replaces the best so far. -/
def State.betterSource (s : State) (best : Option Source) (src : Source) : Option Source :=
  if s.acceptable src then
    match best with
    | none => some src
    | some b => if (s.dev.level b).toNat < (s.dev.level src).toNat then some src else some b
  else best

/-- The maskable source the check takes (R510 step 4, R513). -/
def State.bestSource (s : State) : Option Source := maskableSources.foldl s.betterSource none

/-- The lowest pending trap (R510 step 1). -/
def lowestTrap (t : BitVec 16) : Option Nat := (List.range 16).find? t.getLsbD

/-- `trap_pending[n] <- 0`. -/
def clearTrap (n : Nat) (s : State) : State :=
  { s with cpu.trapPending := s.cpu.trapPending &&& ~~~(1#16 <<< n) }

/-- `InterruptCheck()` (R510). -/
def interruptCheck (s : State) : State :=
  match lowestTrap s.cpu.trapPending with
  | some n => enter (16 + n) none (clearTrap n s)
  | none =>
    match s.cpu.excSlot with
    | some k => enter k.vector none { s with cpu.excSlot := none }
    | none =>
      if s.pending .nmi then enter 11 (some 7#3) s
      else
        match s.bestSource with
        | some src => enter src.vector (some (s.dev.level src)) s
        | none => s

end Sys2Proof.Machine
end

