-- ==== Sys2Proof/Machine/Operands.lean ====
section
/-! DEFINITION. The addressing-mode resolver (spec/40_fetch_decode_dispatch.md R160 to R171), operand access, and the shapes
of general-format instructions. -/

namespace Sys2Proof.Machine

/-- The outcome of a meaning. -/
abbrev Result := Host.Outcome State Fault Refusal

/-- A resolved operand (R154); its width is the specifier's. -/
inductive Operand where
  | reg (n : Reg)
  | mem (pa : BusAddr)
  | imm (v : Word)
  deriving DecidableEq, Repr

/-- `PageOf(n)` (R160). -/
def State.pageOf (s : State) : Reg → Byte
  | .r0 | .r1 | .r2 | .r3 => s.cpu.dp
  | .r4 | .r5 => s.cpu.ep
  | .r6 | .r7 => s.cpu.tp

/-- The step of pre-decrement and post-increment (R164, R166): 2 for a word, and for a byte through R[7]. -/
def autoStep (sz : Size) (n : Reg) : Word :=
  match sz with
  | .word => 2#16
  | .byte => if n = .r7 then 2#16 else 1#16

/-- `ResolveEA` (R161 to R169). -/
def resolveEA (ea : EA) (s : State) : Operand × State :=
  match ea with
  | .reg _ n => (.reg n, s)
  | .preDec sz n =>
    let a := s.reg n - autoStep sz n
    (.mem (busAddr (s.pageOf n) a), s.setReg n a)
  | .postInc sz n => (.mem (busAddr (s.pageOf n) (s.reg n)), s.setReg n (s.reg n + autoStep sz n))
  | .ind _ n => (.mem (busAddr (s.pageOf n) (s.reg n)), s)
  | .disp8 _ n d => (.mem (busAddr (s.pageOf n) (s.reg n + sext16 d)), s)
  | .disp16 _ n d => (.mem (busAddr (s.pageOf n) (s.reg n + d)), s)
  | .abs8 _ a => (.mem (busAddr 0x00#8 (Word.ofBytes s.cpu.br a)), s)
  | .abs16 _ a => (.mem (busAddr s.cpu.dp a), s)
  | .imm8 v => (.imm (v.setWidth 16), s)
  | .imm16 v => (.imm v, s)

/-- `ReadOp(o)` (R165). -/
def readOp (sz : Size) (o : Operand) (s : State) : Word × State :=
  match o with
  | .reg n => (s.regW sz n, s)
  | .mem pa => memRead sz pa s
  | .imm v => (v, s)

/-- `WriteOp(o, v)` (R165). No admitted instruction writes an immediate (R120). -/
def writeOp (sz : Size) (o : Operand) (v : Word) (s : State) : State :=
  match o with
  | .reg n => s.setRegW sz n v
  | .mem pa => memWrite sz pa v s
  | .imm _ => s

/-! ## Shapes -/

/-- Steps 1 to 3 of R171: the specifier is resolved with its side effect, then a reserved combination (R131) requests
InvalidInstruction and does nothing else (R132). -/
def general (admitted : Bool) (ea : EA) (s : State) (k : Operand → State → State) : Result :=
  let r := resolveEA ea s
  .next (if admitted then k r.1 r.2 else requestException .invalidInstruction r.2)

/-- An instruction that reads its operand: `k` gets the value and the state after the read. -/
def reading (admitted : Bool) (ea : EA) (s : State) (k : Word → State → State) : Result :=
  general admitted ea s fun o s1 => k (readOp ea.size o s1).1 (readOp ea.size o s1).2

/-- A read-modify-write instruction (R165): the operand is read once and written once, then the flags change. -/
def modifying (admitted : Bool) (ea : EA) (s : State) (f : Word → State → Alu) : Result :=
  general admitted ea s fun o s1 =>
    let v := readOp ea.size o s1
    let a := f v.1 v.2
    (writeOp ea.size o a.r v.2).setNzvc a.f

/-- A two-operand instruction into a register: result and flags of `f (Reg_W(d)) source`. -/
def intoReg (ea : EA) (rd : Reg) (s : State) (f : Word → Word → Nzvc → Alu) : Result :=
  reading true ea s fun v s1 =>
    let a := f (s1.regW ea.size rd) v s1.nzvc
    (s1.setRegW ea.size rd a.r).setNzvc a.f

/-- `Reg_W(d) <- v; LogicFlags_W(v)`. -/
def moveToReg (sz : Size) (rd : Reg) (v : Word) (s : State) : State :=
  (s.setRegW sz rd v).setNzvc (logicFlags sz v s.nzvc)

/-- `MemWrite(pa, W/8, v); LogicFlags_W(v)`. -/
def moveToMem (sz : Size) (pa : BusAddr) (v : Word) (s : State) : State :=
  (memWrite sz pa v s).setNzvc (logicFlags sz v s.nzvc)

/-- The bit operations of R281 to R286 as a result and flags: `g` is what happens to the value. -/
def bitAlu (n : Nat) (g : Word → Word → Word) (v : Word) (s : State) : Alu :=
  { r := g v (1#16 <<< n), f := bitFlags v n s.nzvc }

end Sys2Proof.Machine
end

