-- ==== Sys2Proof/Machine/Arithmetic.lean ====
section
/-! DEFINITION. The arithmetic instructions (spec/42_arithmetic.md). -/

namespace Sys2Proof.Machine

/-- ADD:G (R220). -/
def execAddG (ea : EA) (rd : Reg) (s : State) : Result := intoReg ea rd s fun d v _ => addCommon ea.size d v false

/-- The constant of ADD:Q (R118, R222), modulo 2^16. -/
def quickValue : Quick → Word
  | .plus1 => 0x0001#16
  | .plus2 => 0x0002#16
  | .minus1 => 0xFFFF#16
  | .minus2 => 0xFFFE#16

/-- Classes reg and mem of R120. -/
def alterable (ea : EA) : Bool := ea.cls == .reg || ea.cls == .mem

/-- ADD:Q (R222). -/
def execAddQ (q : Quick) (ea : EA) (s : State) : Result :=
  modifying (alterable ea) ea s fun v _ => addCommon ea.size v (quickValue q) false

/-- ADDX (R224): C is read before it is rewritten. -/
def execAddx (ea : EA) (rd : Reg) (s : State) : Result := intoReg ea rd s fun d v f => addCommon ea.size d v f.c

/-- ADDS (R226): the whole register, no flag. -/
def execAdds (ea : EA) (rd : Reg) (s : State) : Result :=
  reading true ea s fun v s1 => s1.setReg rd (s1.reg rd + extendSource ea.size v)

/-- SUB (R228). -/
def execSub (ea : EA) (rd : Reg) (s : State) : Result := intoReg ea rd s fun d v _ => subCommon ea.size d v false

/-- SUBS (R229). -/
def execSubs (ea : EA) (rd : Reg) (s : State) : Result :=
  reading true ea s fun v s1 => s1.setReg rd (s1.reg rd - extendSource ea.size v)

/-- SUBX (R230). -/
def execSubx (ea : EA) (rd : Reg) (s : State) : Result := intoReg ea rd s fun d v f => subCommon ea.size d v f.c

/-- CMP:G `<EA>,Rd` (R232). -/
def execCmpG (ea : EA) (rd : Reg) (s : State) : Result :=
  reading true ea s fun v s1 => s1.setNzvc (subCommon ea.size (s1.regW ea.size rd) v false).f

/-- CMP:G `#xx:8,<EA>` (R233): the memory operand minus the immediate. -/
def execCmpGImm8 (i : Byte) (ea : EA) (s : State) : Result :=
  reading (ea.cls == .mem && ea.size == .byte) ea s fun v s1 =>
    s1.setNzvc (subCommon .byte v (i.setWidth 16) false).f

/-- CMP:G `#xx:16,<EA>` (R234). -/
def execCmpGImm16 (i : Word) (ea : EA) (s : State) : Result :=
  reading (ea.cls == .mem && ea.size == .word) ea s fun v s1 => s1.setNzvc (subCommon .word v i false).f

/-- CMP:E (R235). -/
def execCmpE (i : Byte) (rd : Reg) (s : State) : Result :=
  .next (s.setNzvc (subCommon .byte (s.regW .byte rd) (i.setWidth 16) false).f)

/-- CMP:I (R236). -/
def execCmpI (i : Word) (rd : Reg) (s : State) : Result := .next (s.setNzvc (subCommon .word (s.reg rd) i false).f)

/-- Whether a word multiply or divide may name this register (R131). -/
def pairOk (ea : EA) (rd : Reg) : Bool := ea.size == .byte || opensPair rd

/-- MULXU (R240). -/
def execMulxu (ea : EA) (rd : Reg) (s : State) : Result :=
  reading (pairOk ea rd) ea s fun v s1 =>
    match ea.size with
    | .byte =>
      let p := mulByte (s1.reg rd) v
      (s1.setReg rd p.r).setNzvc p.f
    | .word =>
      let m := match s1.params.multiplicand with
        | .rdNext => s1.reg (nextReg rd)
        | .rd => s1.reg rd
      let p := mulWord m v
      ((s1.setReg rd p.hi).setReg (nextReg rd) p.lo).setNzvc p.f

/-- The dividend of DIVXU (R242). -/
def State.dividend (s : State) (sz : Size) (rd : Reg) : Nat :=
  match sz with
  | .byte => (s.reg rd).toNat
  | .word => (s.reg rd).toNat * 2 ^ 16 + (s.reg (nextReg rd)).toNat

/-- The destination of DIVXU gets a quotient and a remainder (R242). -/
def storeQuotient (sz : Size) (rd : Reg) (q r : Nat) (s : State) : State :=
  match sz with
  | .byte => s.setReg rd (BitVec.ofNat 16 (r * 2 ^ 8 + q))
  | .word => (s.setReg rd (BitVec.ofNat 16 r)).setReg (nextReg rd) (BitVec.ofNat 16 q)

/-- The destination of DIVXU by zero gets free words (U2; notes/assumptions/10.md). -/
def storeFree (sz : Size) (rd : Reg) (s : State) : State :=
  match sz with
  | .byte => s.setReg rd (Config.freeWord s.model.draws)
  | .word => (s.setReg rd (Config.freeWord s.model.draws)).setReg (nextReg rd) (Config.freeWord (s.model.draws + 1))

/-- DIVXU by zero: "unspecified" (R242, U2). The machine goes on; the destination and the four flags are free. -/
def divideByZero (sz : Size) (rd : Reg) (s : State) : State :=
  let d := s.model.draws
  let f : Nzvc := { n := Config.freeBit d, z := Config.freeBit (d + 1),
                    v := Config.freeBit (d + 2), c := Config.freeBit (d + 3) }
  ((storeFree sz rd s).setNzvc f).drawn 4

/-- DIVXU overflow (R242): V set, C cleared, registers unchanged, N and Z any value (U3). -/
def divideOverflow (s : State) : State :=
  let d := s.model.draws
  (s.setNzvc { n := Config.freeBit d, z := Config.freeBit (d + 1), v := true, c := false }).drawn 2

/-- DIVXU (R242). -/
def execDivxu (ea : EA) (rd : Reg) (s : State) : Result :=
  reading (pairOk ea rd) ea s fun v s1 =>
    match divide (s1.dividend ea.size rd) v.toNat (2 ^ ea.size.bits - 1) with
    | .byZero => divideByZero ea.size rd s1
    | .overflow => divideOverflow s1
    | .done q r => (storeQuotient ea.size rd q r s1).setNzvc (quotientFlags ea.size q)

/-- EXTS (R244). -/
def execExts (ea : EA) (s : State) : Result :=
  general (ea.cls == .reg && ea.size == .byte) ea s fun o s1 =>
    match o with
    | .reg d =>
      let v := sext16 (s1.reg d).lo
      (s1.setReg d v).setNzvc (testFlags .word v)
    | _ => s1

/-- EXTU (R245). -/
def execExtu (ea : EA) (s : State) : Result :=
  general (ea.cls == .reg && ea.size == .byte) ea s fun o s1 =>
    match o with
    | .reg d =>
      let v := (s1.reg d).lo.setWidth 16
      (s1.setReg d v).setNzvc (testFlags .word v)
    | _ => s1

/-- CLR (R246): the operand is not read. -/
def execClr (ea : EA) (s : State) : Result :=
  general (alterable ea) ea s fun o s1 =>
    (writeOp ea.size o 0#16 s1).setNzvc { n := false, z := true, v := false, c := false }

/-- NEG (R247). -/
def execNeg (ea : EA) (s : State) : Result :=
  modifying (alterable ea) ea s fun v _ => subCommon ea.size 0#16 v false

/-- TST (R248). -/
def execTst (ea : EA) (s : State) : Result :=
  reading (alterable ea) ea s fun v s1 => s1.setNzvc (testFlags ea.size v)

/-- TAS (R250): the flags are those of the value before. -/
def execTas (ea : EA) (s : State) : Result :=
  modifying (alterable ea && ea.size == .byte) ea s fun v _ => { r := v ||| 0x0080#16, f := testFlags .byte v }

end Sys2Proof.Machine
end

