-- ==== Sys2Proof/Machine/Control.lean ====
section
/-! DEFINITION. The control-transfer instructions (spec/44_control_transfer.md). `s.cpu.pc` is PC_next: every byte of the
instruction has been fetched. -/

namespace Sys2Proof.Machine

/-- A displacement as 16 bits (R124): d8 is sign-extended, d16 is used as is. -/
def dispValue : Disp → Word
  | .d8 d => sext16 d
  | .d16 d => d

/-- An immediate of LINK, RTD, PRTD as 16 bits (R124). -/
def immValue : Imm → Word
  | .i8 v => sext16 v
  | .i16 v => v

/-- `if b then PC <- (PC + d) mod 2^16` (R300). -/
def branchIf (b : Bool) (d : Word) (s : State) : State := s.setPc (if b then s.cpu.pc + d else s.cpu.pc)

/-- Bcc (R300): one condition, both encodings. -/
def branchOn (cc : Nat) (d : Disp) (s : State) : Result :=
  .next (branchIf (cond cc s.nzvc) (dispValue d) s)

/-- BRA (R301). -/
def execBra (d : Disp) (s : State) : Result := branchOn 0 d s
/-- BRN (R302). -/
def execBrn (d : Disp) (s : State) : Result := branchOn 1 d s
/-- BHI (R303). -/
def execBhi (d : Disp) (s : State) : Result := branchOn 2 d s
/-- BLS (R304). -/
def execBls (d : Disp) (s : State) : Result := branchOn 3 d s
/-- BCC (R305). -/
def execBcc (d : Disp) (s : State) : Result := branchOn 4 d s
/-- BCS (R306). -/
def execBcs (d : Disp) (s : State) : Result := branchOn 5 d s
/-- BNE (R307). -/
def execBne (d : Disp) (s : State) : Result := branchOn 6 d s
/-- BEQ (R308). -/
def execBeq (d : Disp) (s : State) : Result := branchOn 7 d s
/-- BVC (R309). -/
def execBvc (d : Disp) (s : State) : Result := branchOn 8 d s
/-- BVS (R310). -/
def execBvs (d : Disp) (s : State) : Result := branchOn 9 d s
/-- BPL (R311). -/
def execBpl (d : Disp) (s : State) : Result := branchOn 10 d s
/-- BMI (R312). -/
def execBmi (d : Disp) (s : State) : Result := branchOn 11 d s
/-- BGE (R313). -/
def execBge (d : Disp) (s : State) : Result := branchOn 12 d s
/-- BLT (R314). -/
def execBlt (d : Disp) (s : State) : Result := branchOn 13 d s
/-- BGT (R315). -/
def execBgt (d : Disp) (s : State) : Result := branchOn 14 d s
/-- BLE (R316). -/
def execBle (d : Disp) (s : State) : Result := branchOn 15 d s

/-- `Push16(PC); PC <- t`: a call inside the code page (R318, R322, R323). -/
def callTo (t : Word) (s : State) : State := (push16 s.cpu.pc s).setPc t

/-- `Push16(PC); Push16(zext_16(CP)); CP <- p; PC <- a`: a call across pages (R326, R339). -/
def pageCallTo (p : Byte) (a : Word) (s : State) : State :=
  ((push16 (s.cpu.cp.setWidth 16) (push16 s.cpu.pc s)).setCp p).setPc a

/-- BSR (R318). -/
def execBsr (d : Disp) (s : State) : Result :=
  .next (callTo (s.cpu.pc + (dispValue d)) s)

/-- The target of a jump through a register (R321): the effective address itself. -/
def State.jumpTarget (s : State) : JumpEA → Word
  | .ind n => s.reg n
  | .disp8 n d => s.reg n + sext16 d
  | .disp16 n d => s.reg n + d

/-- JMP `@aa:16` (R320). -/
def execJmpAbs (a : Word) (s : State) : Result := .next (s.setPc a)

/-- JMP through a register (R321). -/
def execJmpInd (t : JumpEA) (s : State) : Result := .next (s.setPc (s.jumpTarget t))

/-- JSR `@aa:16` (R322). -/
def execJsrAbs (a : Word) (s : State) : Result := .next (callTo a s)

/-- JSR through a register (R323): the target is computed before the push. -/
def execJsrInd (t : JumpEA) (s : State) : Result := .next (callTo (s.jumpTarget t) s)

/-- PJMP `@aa:24` (R324). -/
def execPjmpAbs (p : Byte) (a : Word) (s : State) : Result := .next ((s.setCp p).setPc a)

/-- PJMP `@Rn` (R325); n = 7 is reserved (R131). -/
def execPjmpInd (n : Reg) (s : State) : Result :=
  .next (if n = .r7 then requestException .invalidInstruction s
    else (s.setCp (s.reg n).lo).setPc (s.reg (nextReg n)))

/-- PJSR `@aa:24` (R326). -/
def execPjsrAbs (p : Byte) (a : Word) (s : State) : Result := .next (pageCallTo p a s)

/-- PJSR `@Rn` (R339); n = 7 is reserved (R131). -/
def execPjsrInd (n : Reg) (s : State) : Result :=
  .next (if n = .r7 then requestException .invalidInstruction s
    else pageCallTo (s.reg n).lo (s.reg (nextReg n)) s)

/-- `PC <- Pop16()`. -/
def returnNear (s : State) : State := (pop16 s).2.setPc (pop16 s).1

/-- `w <- Pop16(); CP <- w[7:0]; PC <- Pop16()`. -/
def returnFar (s : State) : State :=
  let w := pop16 s
  let p := pop16 w.2
  (p.2.setCp w.1.lo).setPc p.1

/-- `R[7] <- (R[7] + i) mod 2^16`. -/
def deallocate (i : Word) (s : State) : State := s.setReg .r7 (s.reg .r7 + i)

/-- RTS (R327). -/
def execRts (s : State) : Result := .next (returnNear s)

/-- PRTS (R337). -/
def execPrts (s : State) : Result := .next (returnFar s)

/-- RTD (R328). -/
def execRtd (i : Imm) (s : State) : Result := .next (deallocate (immValue i) (returnNear s))

/-- PRTD (R329). -/
def execPrtd (i : Imm) (s : State) : Result := .next (deallocate (immValue i) (returnFar s))

/-- Decrement the counter and branch unless it reached `SCB_TERMINAL` (R330). -/
def loopStep (rc : Reg) (d : Byte) (s : State) : State :=
  let v := s.reg rc - 1#16
  branchIf (v != s.params.scbTerminal) (sext16 d) (s.setReg rc v)

/-- SCB/F (R330). -/
def execScbF (rc : Reg) (d : Byte) (s : State) : Result := .next (loopStep rc d s)

/-- SCB/NE (R331): falls through, without decrementing, when Z = 0. -/
def execScbNe (rc : Reg) (d : Byte) (s : State) : Result := .next (if cond 6 s.nzvc then s else loopStep rc d s)

/-- SCB/EQ (R332): falls through, without decrementing, when Z = 1. -/
def execScbEq (rc : Reg) (d : Byte) (s : State) : Result := .next (if cond 7 s.nzvc then s else loopStep rc d s)

/-- LINK (R334). -/
def execLink (i : Imm) (s : State) : Result :=
  let s1 := push16 (s.reg .r6) s
  let s2 := s1.setReg .r6 (s1.reg .r7)
  .next (deallocate (immValue i) s2)

/-- UNLK (R336). -/
def execUnlk (s : State) : Result :=
  let p := pop16 (s.setReg .r7 (s.reg .r6))
  .next (p.2.setReg .r6 p.1)

end Sys2Proof.Machine
end

