-- ==== Sys2Proof/Machine/Logic.lean ====
section
/-! DEFINITION. The logic, shift, rotate and bit instructions (spec/43_logic_shift_bit.md). -/

namespace Sys2Proof.Machine

/-- The flags of a logic result (R260 to R262). -/
def logicAlu (sz : Size) (r : Word) (old : Nzvc) : Alu := { r := r, f := logicFlags sz r old }

/-- Classes reg and mem of R120. -/
def changeable (ea : EA) : Bool := ea.cls == .reg || ea.cls == .mem

/-- AND (R260). -/
def execAnd (ea : EA) (rd : Reg) (s : State) : Result := intoReg ea rd s fun d v f => logicAlu ea.size (d &&& v) f

/-- OR (R261). -/
def execOr (ea : EA) (rd : Reg) (s : State) : Result := intoReg ea rd s fun d v f => logicAlu ea.size (d ||| v) f

/-- XOR (R262). -/
def execXor (ea : EA) (rd : Reg) (s : State) : Result := intoReg ea rd s fun d v f => logicAlu ea.size (d ^^^ v) f

/-- NOT (R263). -/
def execNot (ea : EA) (s : State) : Result :=
  modifying (changeable ea) ea s fun v s1 => logicAlu ea.size (narrow ea.size (~~~v)) s1.nzvc

/-- SHAL (R270). -/
def execShal (ea : EA) (s : State) : Result := modifying (changeable ea) ea s fun v _ => shalOp ea.size v

/-- SHAR (R271). -/
def execShar (ea : EA) (s : State) : Result := modifying (changeable ea) ea s fun v _ => sharOp ea.size v

/-- SHLL (R272). -/
def execShll (ea : EA) (s : State) : Result := modifying (changeable ea) ea s fun v _ => shllOp ea.size v

/-- SHLR (R273). -/
def execShlr (ea : EA) (s : State) : Result := modifying (changeable ea) ea s fun v _ => shlrOp ea.size v

/-- ROTL (R274). -/
def execRotl (ea : EA) (s : State) : Result := modifying (changeable ea) ea s fun v _ => rotlOp ea.size v

/-- ROTR (R275). -/
def execRotr (ea : EA) (s : State) : Result := modifying (changeable ea) ea s fun v _ => rotrOp ea.size v

/-- ROTXL (R276). -/
def execRotxl (ea : EA) (s : State) : Result := modifying (changeable ea) ea s fun v s1 => rotxlOp ea.size s1.nzvc.c v

/-- ROTXR (R277). -/
def execRotxr (ea : EA) (s : State) : Result := modifying (changeable ea) ea s fun v s1 => rotxrOp ea.size s1.nzvc.c v

/-- BSET `#xx,<EA>` (R281). -/
def execBsetI (b : BitVec 4) (ea : EA) (s : State) : Result :=
  modifying (changeable ea) ea s fun v s1 => bitAlu (bitNumberI ea.size b) (fun v m => v ||| m) v s1

/-- BSET `Rs,<EA>` (R282). -/
def execBsetR (rs : Reg) (ea : EA) (s : State) : Result :=
  modifying (changeable ea) ea s fun v s1 => bitAlu (bitNumberR ea.size (s1.reg rs)) (fun v m => v ||| m) v s1

/-- BCLR `#xx,<EA>` (R283). -/
def execBclrI (b : BitVec 4) (ea : EA) (s : State) : Result :=
  modifying (changeable ea) ea s fun v s1 => bitAlu (bitNumberI ea.size b) (fun v m => v &&& ~~~m) v s1

/-- BCLR `Rs,<EA>` (R284). -/
def execBclrR (rs : Reg) (ea : EA) (s : State) : Result :=
  modifying (changeable ea) ea s fun v s1 => bitAlu (bitNumberR ea.size (s1.reg rs)) (fun v m => v &&& ~~~m) v s1

/-- BNOT `#xx,<EA>` (R285). -/
def execBnotI (b : BitVec 4) (ea : EA) (s : State) : Result :=
  modifying (changeable ea) ea s fun v s1 => bitAlu (bitNumberI ea.size b) (fun v m => v ^^^ m) v s1

/-- BNOT `Rs,<EA>` (R286). -/
def execBnotR (rs : Reg) (ea : EA) (s : State) : Result :=
  modifying (changeable ea) ea s fun v s1 => bitAlu (bitNumberR ea.size (s1.reg rs)) (fun v m => v ^^^ m) v s1

/-- BTST `#xx,<EA>` (R287). -/
def execBtstI (b : BitVec 4) (ea : EA) (s : State) : Result :=
  reading (changeable ea) ea s fun v s1 => s1.setNzvc (bitFlags v (bitNumberI ea.size b) s1.nzvc)

/-- BTST `Rs,<EA>` (R288). -/
def execBtstR (rs : Reg) (ea : EA) (s : State) : Result :=
  reading (changeable ea) ea s fun v s1 => s1.setNzvc (bitFlags v (bitNumberR ea.size (s1.reg rs)) s1.nzvc)

end Sys2Proof.Machine
end

