-- ==== Sys2Proof/Machine/Specifiers.lean ====
section
/-! DEFINITION. The EA-specifier rows of spec/opcode_table.json (30_encoding.md R113) as far as a specifier alone runs: it is
resolved, with its register side effect (40_fetch_decode_dispatch.md R161 to R169; notes/assumptions/26.md). -/

namespace Sys2Proof.Machine

/-- `Rn` (R161). -/
def execEaReg (sz : Size) (n : Reg) (s : State) : Result := .next (resolveEA (.reg sz n) s).2

/-- `@-Rn` (R164). -/
def execEaPreDec (sz : Size) (n : Reg) (s : State) : Result := .next (resolveEA (.preDec sz n) s).2

/-- `@Rn+` (R166). -/
def execEaPostInc (sz : Size) (n : Reg) (s : State) : Result := .next (resolveEA (.postInc sz n) s).2

/-- `@Rn` (R162). -/
def execEaInd (sz : Size) (n : Reg) (s : State) : Result := .next (resolveEA (.ind sz n) s).2

/-- `@(d:8,Rn)` (R163). -/
def execEaDisp8 (sz : Size) (n : Reg) (d : Byte) (s : State) : Result := .next (resolveEA (.disp8 sz n d) s).2

/-- `@(d:16,Rn)` (R163). -/
def execEaDisp16 (sz : Size) (n : Reg) (d : Word) (s : State) : Result := .next (resolveEA (.disp16 sz n d) s).2

/-- `@aa:8` (R167). -/
def execEaAbs8 (sz : Size) (a : Byte) (s : State) : Result := .next (resolveEA (.abs8 sz a) s).2

/-- `@aa:16` (R168). -/
def execEaAbs16 (sz : Size) (a : Word) (s : State) : Result := .next (resolveEA (.abs16 sz a) s).2

/-- `#xx:8` (R169). -/
def execEaImm8 (v : Byte) (s : State) : Result := .next (resolveEA (.imm8 v) s).2

/-- `#xx:16` (R169). -/
def execEaImm16 (v : Word) (s : State) : Result := .next (resolveEA (.imm16 v) s).2

end Sys2Proof.Machine
end

