-- ==== Sys2Proof/Machine/SubBus.lean ====
section
/-! DEFINITION. The sub core's address space (spec/47_sub_core_isa.md R402) and its device block (60_exceptions.md R600 to
R612): registers, UART reception and the prescaled timer. -/

/-- The number of a UART channel (R592, R600). -/
def Sys2Proof.Chan.toNat : Sys2Proof.Chan → Nat
  | .c0 => 0
  | .c1 => 1
  | .c2 => 2

namespace Sys2Proof.Machine

/-! ## The device block -/

/-- UART channel `c`. -/
def Link.uart (l : Link) : Chan → Uart
  | .c0 => l.uart0
  | .c1 => l.uart1
  | .c2 => l.uart2

/-- Replace UART channel `c`. -/
def Link.setUart (c : Chan) (u : Uart) (l : Link) : Link :=
  match c with
  | .c0 => { l with uart0 := u }
  | .c1 => { l with uart1 := u }
  | .c2 => { l with uart2 := u }

/-- The register at offset `i` of the device block under `SUBDEVMAP` (R600), if one is there. -/
def subDevReg (p : Params) (i : Nat) : Option SubDevReg := (p.subDevMap.find? fun e => e.1 == i).map Prod.snd

/-- `UcSTAT` (R600). -/
def Uart.status (u : Uart) : Byte := bit 8 u.rxReady ||| (bit 8 u.txEmpty <<< 1)

/-- A read of a device register (R600, R601, R609). -/
def subRegRead (r : SubDevReg) (s : State) : Byte × State :=
  let l := s.link
  match r with
  | .uData c =>
    ((l.uart c).rxData,
     { s with link := Link.setPending (2 * c.toNat) false (l.setUart c { l.uart c with rxReady := false }) })
  | .uStat c => ((l.uart c).status, s)
  | .uMode c => ((l.uart c).mode, s)
  | .uBaud c => ((l.uart c).baud, s)
  | .mbox => (l.mboxM2s, s)
  | .sema => (l.semaphore, s)
  | .coll => (l.collision, { s with link := Link.setPending 7 false { l with collision := 0x00#8 } })
  | .ramdir => (l.ramdir, s)
  | .tpre => (l.stPrescale, s)
  | .tcnt => (l.stCount, s)
  | .ien => (l.intEnable.setWidth 8, s)
  | .ipend => (l.intPending, s)
  | .pout => (l.latchS2m, s)
  | .pin => (l.latchM2s, s)

/-- A write of a device register (R600, R602, R607). -/
def subRegWrite (r : SubDevReg) (v : Byte) (s : State) : State :=
  let l := s.link
  match r with
  | .uData c =>
    State.emit (.uartTx c v)
      { s with link := Link.setPending (2 * c.toNat + 1) true (l.setUart c { l.uart c with txData := v }) }
  | .uStat _ => s
  | .uMode c => { s with link := l.setUart c { l.uart c with mode := v } }
  | .uBaud c => { s with link := l.setUart c { l.uart c with baud := v } }
  | .mbox => { s with link.mboxS2m := v }
  | .sema => { s with link.semaphore := v }
  | .coll => s
  | .ramdir => { s with link.ramdir := v }
  | .tpre => { s with link.stPrescale := v }
  | .tcnt => { s with link.stCount := v }
  | .ien => { s with link.intEnable := v.extractLsb' 0 5 }
  | .ipend => { s with link.intPending := l.intPending &&& v }
  | .pout => { s with link.latchS2m := v }
  | .pin => s

/-- A read at offset `i` of the device block: a register, or a stored byte (R600, R612). -/
def subDevRead (i : Nat) (s : State) : Byte × State :=
  match subDevReg s.params i with
  | some r => subRegRead r s
  | none => (s.link.stored.read i, s)

/-- A write at offset `i` of the device block (R600, R612). -/
def subDevWrite (i : Nat) (v : Byte) (s : State) : State :=
  match subDevReg s.params i with
  | some r => subRegWrite r v s
  | none => { s with link.stored := s.link.stored.write i v }

/-! ## The address space -/

/-- What a sub-core address names (R402). -/
inductive SubTarget where
  | ram  (i : Nat)
  | acc  (i : Nat)
  | dev  (i : Nat)
  | shram (i : Nat)
  | rom  (i : Nat)
  | unmapped
  deriving DecidableEq, Repr

/-- The table of R402; address bits 15:13 are not decoded. -/
def subTarget (a : Word) : SubTarget :=
  let n := a.toNat % 0x2000
  if n < 0x80 then .ram n
  else if 0xC0 ≤ n ∧ n < 0xD8 then .acc (n - 0xC0)
  else if 0xE0 ≤ n ∧ n < 0x100 then .dev (n - 0xE0)
  else if 0x200 ≤ n ∧ n < 0x2C0 then .shram (n - 0x200)
  else if 0x1000 ≤ n then .rom (n - 0x1000)
  else .unmapped

/-- `SubRead(a)` (R402): total. -/
def subRead (a : Word) (s : State) : Byte × State :=
  match subTarget a with
  | .ram i => (s.sub.ram.read i, s)
  | .acc i => (s.link.accByte i, s)
  | .dev i => subDevRead i s
  | .shram i => subShRead i s
  | .rom i => (s.sub.rom.read i, s)
  | .unmapped => (s.params.fill, s)

/-- `SubWrite(a, v)` (R402): total; ROM and unmapped addresses discard. -/
def subWrite (a : Word) (v : Byte) (s : State) : State :=
  match subTarget a with
  | .ram i => { s with sub.ram := s.sub.ram.write i v }
  | .acc i => { s with link := Link.setAccByte i v s.link }
  | .dev i => subDevWrite i v s
  | .shram i => subShWrite i v s
  | .rom _ => s
  | .unmapped => s

/-- What `SubRead` returns, without its side effects. -/
def subPeek (s : State) (a : Word) : Byte := (subRead a s).1

/-! ## The passage of sub-core time -/

/-- Whether a byte in flight has become ready (R604). -/
def Uart.arrives (u : Uart) (now : Nat) : Bool :=
  match u.rxDue with
  | none => false
  | some d => decide (d ≤ now)

/-- A channel after the first part of `SubDevUpdate` (R604). -/
def Uart.advance (now : Nat) (u : Uart) : Uart :=
  if u.arrives now then { u with rxData := u.rxIncoming, rxReady := true, rxDue := none } else u

/-- `sub_int_pending` with bit `j` set if `b`. -/
def raisedIf (j : Nat) (b : Bool) (v : Byte) : Byte := if b then v ||| (1#8 <<< j) else v

/-- `SubDevUpdate()`, first part (R604): UART reception. -/
def Link.uartUpdate (now : Nat) (l : Link) : Link :=
  { l with uart0 := l.uart0.advance now,
           uart1 := l.uart1.advance now,
           uart2 := l.uart2.advance now,
           intPending :=
             raisedIf 4 (l.uart2.arrives now) (raisedIf 2 (l.uart1.arrives now)
               (raisedIf 0 (l.uart0.arrives now) l.intPending)) }

/-- The sub-core cycles of one count of the prescaled timer (R606). -/
def Link.timerPeriod (l : Link) : Nat := 16 * (l.stPrescale.toNat + 1)

/-- `SubDevUpdate()`, second part (R606): the loop runs `(stimer_div + SUB_CPI) / period` times, and the count passes from
0x00 to 0xFF when that is more than the count (notes/assumptions/30.md). -/
def Link.timerUpdate (cpi : Nat) (l : Link) : Link :=
  let d := l.stDiv + cpi
  let k := d / l.timerPeriod
  { l with stDiv := d % l.timerPeriod,
           stCount := l.stCount - BitVec.ofNat 8 k,
           intPending := raisedIf 6 (decide (l.stCount.toNat < k)) l.intPending }

/-- `SubDevUpdate()` (R604, R606). -/
def subDevUpdate (s : State) : State :=
  { s with link := (s.link.uartUpdate s.sub.cycles).timerUpdate Config.subCpi }

/-- `post_uart(b)` (R604); ignored on mk1 (R670). The byte is dropped while one is in flight. -/
def postUart (b : Byte) (s : State) : State :=
  match s.params.variant with
  | .mk1 => s
  | .mk2 =>
    match s.link.uart0.rxDue with
    | some _ => s
    | none =>
      { s with link.uart0 :=
          { s.link.uart0 with rxIncoming := b, rxDue := some (s.sub.cycles + Config.uartRxLatency) } }

end Sys2Proof.Machine
end

