-- ==== Sys2Proof/Machine/SubOps.lean ====
section
/-! DEFINITION. The named operations of the sub core (spec/47_sub_core_isa.md R404 to R407, 60_exceptions.md R593): the
stack, the addressing modes, the flag helpers, taking an interrupt. -/

namespace Sys2Proof.Machine

/-! ## Registers -/

/-- `A <- v`. -/
def State.setA (v : Byte) (s : State) : State := { s with sub.a := v }

/-- `X <- v`. -/
def State.setX (v : Byte) (s : State) : State := { s with sub.x := v }

/-- `Y <- v`. -/
def State.setY (v : Byte) (s : State) : State := { s with sub.y := v }

/-- `S <- v`. -/
def State.setS (v : Byte) (s : State) : State := { s with sub.s := v }

/-- `P <- v`. -/
def State.setP (v : Byte) (s : State) : State := { s with sub.p := v }

/-- `SPC <- v`. -/
def State.setSpc (v : Word) (s : State) : State := { s with sub.spc := v }

/-- Bit `i` of a byte set to `b`. -/
def withBit (i : Nat) (b : Bool) (v : Byte) : Byte := if b then v ||| (1#8 <<< i) else v &&& ~~~(1#8 <<< i)

/-- `NZ8(r)` on a value of P (R406): N bit 7, Z bit 1. -/
def nz8 (r p : Byte) : Byte := withBit 7 (r.getLsbD 7) (withBit 1 (r == 0x00#8) p)

/-- The flags of P (R42). -/
def State.pC (s : State) : Bool := s.sub.p.getLsbD 0
/-- `P.Z`. -/
def State.pZ (s : State) : Bool := s.sub.p.getLsbD 1
/-- `P.I`. -/
def State.pI (s : State) : Bool := s.sub.p.getLsbD 2
/-- `P.D`. -/
def State.pD (s : State) : Bool := s.sub.p.getLsbD 3
/-- `P.T`. -/
def State.pT (s : State) : Bool := s.sub.p.getLsbD 5
/-- `P.V`. -/
def State.pV (s : State) : Bool := s.sub.p.getLsbD 6
/-- `P.N`. -/
def State.pN (s : State) : Bool := s.sub.p.getLsbD 7

/-- `NZ8(r)` (R406). -/
def State.setNz8 (r : Byte) (s : State) : State := s.setP (nz8 r s.sub.p)

/-! ## Stack -/

/-- `SubPush(v)` (R404). -/
def subPush (v : Byte) (s : State) : State :=
  let t := subWrite (s.sub.s.setWidth 16) v s
  t.setS (t.sub.s - 1#8)

/-- `SubPull()` (R404). -/
def subPull (s : State) : Byte × State :=
  let t := s.setS (s.sub.s + 1#8)
  subRead (t.sub.s.setWidth 16) t

/-- Push a 16-bit address: the high byte first (R461, R593). -/
def subPushWord (v : Word) (s : State) : State := subPush v.lo (subPush v.hi s)

/-- Pull a 16-bit address: the low byte first (R462). -/
def subPullWord (s : State) : Word × State :=
  let l := subPull s
  let h := subPull l.2
  (Word.ofBytes h.1 l.1, h.2)

/-- The little-endian word at `a` and `b` (R400), the low byte read first. -/
def subReadWord (a b : Word) (s : State) : Word × State :=
  let l := subRead a s
  let h := subRead b l.2
  (Word.ofBytes h.1 l.1, h.2)

/-! ## Addressing modes -/

/-- Where an operand is (R405). -/
inductive SubPlace where
  | acc
  | imm (v : Byte)
  | mem (ea : Word)
  deriving DecidableEq, Repr

/-- A zero-page address. -/
def zeroPage (z : Byte) : Word := z.setWidth 16

/-- The operand's place (R405); the indirect mode reads its pointer here. -/
def subPlace (m : SubMode) (s : State) : SubPlace × State :=
  match m with
  | .acc => (.acc, s)
  | .imm n => (.imm n, s)
  | .zp z => (.mem (zeroPage z), s)
  | .zpx z => (.mem (zeroPage (z + s.sub.x)), s)
  | .zpy z => (.mem (zeroPage (z + s.sub.y)), s)
  | .abs a => (.mem a, s)
  | .absx a => (.mem (a + s.sub.x.setWidth 16), s)
  | .absy a => (.mem (a + s.sub.y.setWidth 16), s)
  | .indy z =>
    let p := subReadWord (zeroPage z) (zeroPage (z + 1#8)) s
    (.mem (p.1 + s.sub.y.setWidth 16), p.2)

/-- Read an operand at its place. -/
def subLoad (o : SubPlace) (s : State) : Byte × State :=
  match o with
  | .acc => (s.sub.a, s)
  | .imm v => (v, s)
  | .mem a => subRead a s

/-- Write an operand back to its place. No admitted instruction writes an immediate. -/
def subStore (o : SubPlace) (v : Byte) (s : State) : State :=
  match o with
  | .acc => s.setA v
  | .imm _ => s
  | .mem a => subWrite a v s

/-- Read the operand of a mode. -/
def subOperand (m : SubMode) (s : State) : Byte × State := subLoad (subPlace m s).1 (subPlace m s).2

/-- Read the operand of a mode, change it by `f` (which also gives P), write it back (R405). -/
def subModify (m : SubMode) (s : State) (f : Byte → Byte → Byte × Byte) : State :=
  let o := subPlace m s
  let v := subLoad o.1 o.2
  let r := f v.1 v.2.sub.p
  (subStore o.1 r.1 v.2).setP r.2

/-! ## Arithmetic -/

/-- `Adc8(m)` (R406) on A and P. -/
def adc8 (a m p : Byte) : Byte × Byte :=
  let t := a.toNat + m.toNat + (p.getLsbD 0).toNat
  let r := BitVec.ofNat 8 t
  let v := ((a ^^^ r) &&& (m ^^^ r)).getLsbD 7
  (r, nz8 r (withBit 6 v (withBit 0 (decide (0xFF < t)) p)))

/-- `Sbc8(m)` (R406). -/
def sbc8 (a m p : Byte) : Byte × Byte := adc8 a (m ^^^ 0xFF#8) p

/-- `Cmp8(r, m)` (R406): P after the compare. -/
def cmp8 (r m p : Byte) : Byte := nz8 (r - m) (withBit 0 (decide (m.toNat ≤ r.toNat)) p)

/-- An accumulator operation. With T set its result is unspecified (R407, U6): A is a free byte, N and Z are computed from
it (notes/assumptions/12.md). -/
def subAccOp (m : SubMode) (s : State) (f : Byte → Byte → Byte) : State :=
  let o := subOperand m s
  let t := o.2
  if t.pT then
    let r := Config.freeByte t.model.draws
    ((t.setA r).setNz8 r).drawn 1
  else
    let r := f t.sub.a o.1
    (t.setA r).setNz8 r

/-- ADC and SBC. With D or T set the result is unspecified (R407, U6): A, C and V are free, N and Z are computed from A
(notes/assumptions/12.md). -/
def subArithOp (m : SubMode) (s : State) (f : Byte → Byte → Byte → Byte × Byte) : State :=
  let o := subOperand m s
  let t := o.2
  if t.pT || t.pD then
    let d := t.model.draws
    let r := Config.freeByte d
    ((t.setA r).setP (nz8 r (withBit 6 (Config.freeBit (d + 1)) (withBit 0 (Config.freeBit (d + 2)) t.sub.p)))).drawn 3
  else
    let r := f t.sub.a o.1 t.sub.p
    (t.setA r.1).setP r.2

/-! ## Interrupts -/

/-- The enable bit of a source (R592). -/
def subEnableBit (j : Nat) : Nat :=
  match j with
  | 0 | 1 => 0
  | 2 | 3 => 1
  | 4 | 5 => 2
  | 6 => 3
  | _ => 4

/-- A sub-core source that is enabled and pending (R593). -/
def Link.due (l : Link) (j : Nat) : Bool := l.intEnable.getLsbD (subEnableBit j) && l.intPending.getLsbD j

/-- The source the sub core takes: the lowest due (R592, R593). -/
def Link.dueSource (l : Link) : Option Nat := (List.range 8).find? l.due

/-- Taking a sub-core interrupt (R593): SPC and P are pushed, I is set, SPC comes from the source's vector. The pending bit
stays. -/
def subEnter (j : Nat) (s : State) : State :=
  let t := subPush s.sub.p (subPushWord s.sub.spc s)
  let u := t.setP (withBit 2 true t.sub.p)
  let a := BitVec.ofNat 16 (0xFFFC - 2 * j)
  let w := subReadWord a (a + 1#16) u
  w.2.setSpc w.1

/-- `SubInterruptCheck()` (R593). -/
def subInterruptCheck (s : State) : State :=
  if s.pI then s
  else
    match s.link.dueSource with
    | some j => subEnter j s
    | none => s

end Sys2Proof.Machine
end

