-- ==== Sys2Proof/Machine/Sub8.lean ====
section
/-! DEFINITION. The instructions of the sub core (spec/47_sub_core_isa.md R410 to R477). `s.sub.spc` is the address after
the instruction: every byte of it has been fetched. -/

namespace Sys2Proof.Machine

/-! ## Loads, stores, transfers, stack -/

/-- LDA (R410). -/
def execS8Lda (m : SubMode) (s : State) : Result := .next (subAccOp m s fun _ v => v)

/-- LDX (R411). -/
def execS8Ldx (m : SubMode) (s : State) : Result :=
  let o := subOperand m s
  .next ((o.2.setX o.1).setNz8 o.1)

/-- LDY (R412). -/
def execS8Ldy (m : SubMode) (s : State) : Result :=
  let o := subOperand m s
  .next ((o.2.setY o.1).setNz8 o.1)

/-- STA (R413). -/
def execS8Sta (m : SubMode) (s : State) : Result :=
  let o := subPlace m s
  .next (subStore o.1 o.2.sub.a o.2)

/-- STX (R414). -/
def execS8Stx (m : SubMode) (s : State) : Result :=
  let o := subPlace m s
  .next (subStore o.1 o.2.sub.x o.2)

/-- STY (R415). -/
def execS8Sty (m : SubMode) (s : State) : Result :=
  let o := subPlace m s
  .next (subStore o.1 o.2.sub.y o.2)

/-- LDM `#nn,zz` (R416). -/
def execS8Ldm (n z : Byte) (s : State) : Result := .next (subWrite (zeroPage z) n s)

/-- TAX (R417). -/
def execS8Tax (s : State) : Result := .next ((s.setX s.sub.a).setNz8 s.sub.a)

/-- TXA (R418). -/
def execS8Txa (s : State) : Result := .next ((s.setA s.sub.x).setNz8 s.sub.x)

/-- TAY (R419). -/
def execS8Tay (s : State) : Result := .next ((s.setY s.sub.a).setNz8 s.sub.a)

/-- TYA (R420). -/
def execS8Tya (s : State) : Result := .next ((s.setA s.sub.y).setNz8 s.sub.y)

/-- TSX (R421). -/
def execS8Tsx (s : State) : Result := .next ((s.setX s.sub.s).setNz8 s.sub.s)

/-- TXS (R422): flags unchanged. -/
def execS8Txs (s : State) : Result := .next (s.setS s.sub.x)

/-- PHA (R423). -/
def execS8Pha (s : State) : Result := .next (subPush s.sub.a s)

/-- PLA (R424). -/
def execS8Pla (s : State) : Result :=
  let v := subPull s
  .next ((v.2.setA v.1).setNz8 v.1)

/-- PHP (R425): the B bit is 1 in the pushed copy. -/
def execS8Php (s : State) : Result := .next (subPush (s.sub.p ||| 0x10#8) s)

/-- PLP (R426). -/
def execS8Plp (s : State) : Result :=
  let v := subPull s
  .next (v.2.setP (v.1 &&& 0xEF#8))

/-! ## Arithmetic, compare, increment, decrement -/

/-- ADC (R430). -/
def execS8Adc (m : SubMode) (s : State) : Result := .next (subArithOp m s adc8)

/-- SBC (R431). -/
def execS8Sbc (m : SubMode) (s : State) : Result := .next (subArithOp m s sbc8)

/-- CMP (R432). With T set the result is unspecified (R407, U6): C is free, N and Z are those of a free byte
(notes/assumptions/12.md). -/
def execS8Cmp (m : SubMode) (s : State) : Result :=
  let o := subOperand m s
  let t := o.2
  .next
    (if t.pT then
      let d := t.model.draws
      (t.setP (nz8 (Config.freeByte d) (withBit 0 (Config.freeBit (d + 1)) t.sub.p))).drawn 2
    else t.setP (cmp8 t.sub.a o.1 t.sub.p))

/-- CPX (R433). -/
def execS8Cpx (m : SubMode) (s : State) : Result :=
  let o := subOperand m s
  .next (o.2.setP (cmp8 o.2.sub.x o.1 o.2.sub.p))

/-- CPY (R434). -/
def execS8Cpy (m : SubMode) (s : State) : Result :=
  let o := subOperand m s
  .next (o.2.setP (cmp8 o.2.sub.y o.1 o.2.sub.p))

/-- INC (R435). -/
def execS8Inc (m : SubMode) (s : State) : Result := .next (subModify m s fun v p => (v + 1#8, nz8 (v + 1#8) p))

/-- DEC (R436). -/
def execS8Dec (m : SubMode) (s : State) : Result := .next (subModify m s fun v p => (v - 1#8, nz8 (v - 1#8) p))

/-- INX (R437). -/
def execS8Inx (s : State) : Result := .next ((s.setX (s.sub.x + 1#8)).setNz8 (s.sub.x + 1#8))

/-- INY (R438). -/
def execS8Iny (s : State) : Result := .next ((s.setY (s.sub.y + 1#8)).setNz8 (s.sub.y + 1#8))

/-- DEX (R439). -/
def execS8Dex (s : State) : Result := .next ((s.setX (s.sub.x - 1#8)).setNz8 (s.sub.x - 1#8))

/-- DEY (R440). -/
def execS8Dey (s : State) : Result := .next ((s.setY (s.sub.y - 1#8)).setNz8 (s.sub.y - 1#8))

/-! ## Logic and shifts -/

/-- AND (R441). -/
def execS8And (m : SubMode) (s : State) : Result := .next (subAccOp m s fun a v => a &&& v)

/-- ORA (R442). -/
def execS8Ora (m : SubMode) (s : State) : Result := .next (subAccOp m s fun a v => a ||| v)

/-- EOR (R443). -/
def execS8Eor (m : SubMode) (s : State) : Result := .next (subAccOp m s fun a v => a ^^^ v)

/-- P after BIT (R444). -/
def bitTestP (a m p : Byte) : Byte :=
  withBit 6 (m.getLsbD 6) (withBit 7 (m.getLsbD 7) (withBit 1 (a &&& m == 0x00#8) p))

/-- BIT (R444). -/
def execS8Bit (m : SubMode) (s : State) : Result :=
  let o := subOperand m s
  .next (o.2.setP (bitTestP o.2.sub.a o.1 o.2.sub.p))

/-- A shift's result and P: C is the bit shifted out. -/
def shiftResult (c : Bool) (r p : Byte) : Byte × Byte := (r, nz8 r (withBit 0 c p))

/-- ASL (R445). -/
def execS8Asl (m : SubMode) (s : State) : Result :=
  .next (subModify m s fun v p => shiftResult (v.getLsbD 7) (v <<< 1) p)

/-- LSR (R446). -/
def execS8Lsr (m : SubMode) (s : State) : Result :=
  .next (subModify m s fun v p => shiftResult (v.getLsbD 0) (v >>> 1) p)

/-- ROL (R447): `c0` is C before. -/
def execS8Rol (m : SubMode) (s : State) : Result :=
  .next (subModify m s fun v p => shiftResult (v.getLsbD 7) ((v <<< 1) ||| bit 8 (p.getLsbD 0)) p)

/-- ROR (R448): `c0` is C before. -/
def execS8Ror (m : SubMode) (s : State) : Result :=
  .next (subModify m s fun v p => shiftResult (v.getLsbD 0) ((v >>> 1) ||| (bit 8 (p.getLsbD 0) <<< 7)) p)

/-! ## Branches, jumps, calls -/

/-- `if b then SPC <- (SPC + sext_16(rr)) mod 2^16`. -/
def subBranchIf (b : Bool) (r : Byte) (s : State) : State :=
  s.setSpc (if b then s.sub.spc + r.signExtend 16 else s.sub.spc)

/-- BPL (R450). -/
def execS8Bpl (r : Byte) (s : State) : Result := .next (subBranchIf (!s.pN) r s)
/-- BMI (R451). -/
def execS8Bmi (r : Byte) (s : State) : Result := .next (subBranchIf s.pN r s)
/-- BVC (R452). -/
def execS8Bvc (r : Byte) (s : State) : Result := .next (subBranchIf (!s.pV) r s)
/-- BVS (R453). -/
def execS8Bvs (r : Byte) (s : State) : Result := .next (subBranchIf s.pV r s)
/-- BCC (R454). -/
def execS8Bcc (r : Byte) (s : State) : Result := .next (subBranchIf (!s.pC) r s)
/-- BCS (R455). -/
def execS8Bcs (r : Byte) (s : State) : Result := .next (subBranchIf s.pC r s)
/-- BNE (R456). -/
def execS8Bne (r : Byte) (s : State) : Result := .next (subBranchIf (!s.pZ) r s)
/-- BEQ (R457). -/
def execS8Beq (r : Byte) (s : State) : Result := .next (subBranchIf s.pZ r s)
/-- BRA (R458). -/
def execS8Bra (r : Byte) (s : State) : Result := .next (subBranchIf true r s)

/-- JMP abs (R459). -/
def execS8JmpAbs (a : Word) (s : State) : Result := .next (s.setSpc a)

/-- JMP (abs) (R460): the second byte of the pointer is at `q + 1` with full carry. -/
def execS8JmpInd (a : Word) (s : State) : Result :=
  let w := subReadWord a (a + 1#16) s
  .next (w.2.setSpc w.1)

/-- JSR (R461): the address of the instruction's last byte is pushed. -/
def execS8Jsr (a : Word) (s : State) : Result := .next ((subPushWord (s.sub.spc - 1#16) s).setSpc a)

/-- RTS (R462). -/
def execS8Rts (s : State) : Result :=
  let w := subPullWord s
  .next (w.2.setSpc (w.1 + 1#16))

/-- RTI (R463). -/
def execS8Rti (s : State) : Result :=
  let p := subPull s
  let w := subPullWord (p.2.setP (p.1 &&& 0xEF#8))
  .next (w.2.setSpc w.1)

/-- BRK (R464): one padding byte is skipped, P is pushed with B set, I is set, the vector is 0xFFEC. -/
def execS8Brk (s : State) : Result :=
  let t := subPush (s.sub.p ||| 0x10#8) (subPushWord (s.sub.spc + 1#16) s)
  let u := t.setP (withBit 2 true t.sub.p)
  let w := subReadWord 0xFFEC#16 0xFFED#16 u
  .next (w.2.setSpc w.1)

/-! ## The bit families -/

/-- The place of a bit instruction's operand (R405). -/
def bitPlace : SubBitOperand → SubPlace
  | .acc => .acc
  | .zp z => .mem (zeroPage z)

/-- BBS (R465). -/
def execS8Bbs (i : BitVec 3) (o : SubBitOperand) (r : Byte) (s : State) : Result :=
  let v := subLoad (bitPlace o) s
  .next (subBranchIf (v.1.getLsbD i.toNat) r v.2)

/-- BBC (R466). -/
def execS8Bbc (i : BitVec 3) (o : SubBitOperand) (r : Byte) (s : State) : Result :=
  let v := subLoad (bitPlace o) s
  .next (subBranchIf (!v.1.getLsbD i.toNat) r v.2)

/-- SEB (R467). -/
def execS8Seb (i : BitVec 3) (o : SubBitOperand) (s : State) : Result :=
  let v := subLoad (bitPlace o) s
  .next (subStore (bitPlace o) (v.1 ||| (1#8 <<< i.toNat)) v.2)

/-- CLB (R468). -/
def execS8Clb (i : BitVec 3) (o : SubBitOperand) (s : State) : Result :=
  let v := subLoad (bitPlace o) s
  .next (subStore (bitPlace o) (v.1 &&& ~~~(1#8 <<< i.toNat)) v.2)

/-! ## Flags, no-operation -/

/-- NOP (R469). -/
def execS8Nop (s : State) : Result := .next s

/-- CLC (R471). -/
def execS8Clc (s : State) : Result := .next (s.setP (withBit 0 false s.sub.p))
/-- SEC (R472). -/
def execS8Sec (s : State) : Result := .next (s.setP (withBit 0 true s.sub.p))
/-- CLI (R473). -/
def execS8Cli (s : State) : Result := .next (s.setP (withBit 2 false s.sub.p))
/-- SEI (R474). -/
def execS8Sei (s : State) : Result := .next (s.setP (withBit 2 true s.sub.p))
/-- CLV (R475). -/
def execS8Clv (s : State) : Result := .next (s.setP (withBit 6 false s.sub.p))
/-- CLD (R476). -/
def execS8Cld (s : State) : Result := .next (s.setP (withBit 3 false s.sub.p))
/-- CLT (R477). -/
def execS8Clt (s : State) : Result := .next (s.setP (withBit 5 false s.sub.p))

end Sys2Proof.Machine
end

