-- ==== Sys2Proof/Machine/System.lean ====
section
/-! DEFINITION. The system-control instructions (spec/45_system_control.md). -/

namespace Sys2Proof.Machine

/-- The operand size a control register requires (R350). -/
def crSize : CReg → Size
  | .sr => .word
  | .ccr | .br | .ep | .dp | .tp => .byte

/-- `CRead(ccc)` (R350). -/
def State.crRead (s : State) : CReg → Word
  | .sr => s.cpu.sr
  | .ccr => s.cpu.sr.lo.setWidth 16
  | .br => s.cpu.br.setWidth 16
  | .ep => s.cpu.ep.setWidth 16
  | .dp => s.cpu.dp.setWidth 16
  | .tp => s.cpu.tp.setWidth 16

/-- `CWrite(ccc, v)` (R350). -/
def State.crWrite (cr : CReg) (v : Word) (s : State) : State :=
  match cr with
  | .sr => s.setSr v
  | .ccr => s.setCcr v.lo
  | .br => { s with cpu.br := v.lo }
  | .ep => { s with cpu.ep := v.lo }
  | .dp => { s with cpu.dp := v.lo }
  | .tp => { s with cpu.tp := v.lo }

/-- `suppress <- 1` (R33, R360). -/
def State.suppressCheck (s : State) : State := { s with cpu.suppress := true }

/-- LDC (R351): a size that does not match is reserved, decided before the operand is read. -/
def execLdc (ea : EA) (cr : CReg) (s : State) : Result :=
  reading (ea.size == crSize cr) ea s fun v s1 => (s1.crWrite cr v).suppressCheck

/-- STC (R352): `suppress` is not changed. -/
def execStc (cr : CReg) (ea : EA) (s : State) : Result :=
  general ((ea.cls == .reg || ea.cls == .mem) && ea.size == crSize cr) ea s fun o s1 =>
    writeOp ea.size o (s1.crRead cr) s1

/-- An immediate specifier of the control register's size (R120, R131). -/
def crImmOk (ea : EA) (cr : CReg) : Bool := ea.cls == .imm && ea.size == crSize cr

/-- ANDC (R353). -/
def execAndc (ea : EA) (cr : CReg) (s : State) : Result :=
  reading (crImmOk ea cr) ea s fun v s1 => (s1.crWrite cr (s1.crRead cr &&& v)).suppressCheck

/-- ORC (R354). -/
def execOrc (ea : EA) (cr : CReg) (s : State) : Result :=
  reading (crImmOk ea cr) ea s fun v s1 => (s1.crWrite cr (s1.crRead cr ||| v)).suppressCheck

/-- XORC (R355). -/
def execXorc (ea : EA) (cr : CReg) (s : State) : Result :=
  reading (crImmOk ea cr) ea s fun v s1 => (s1.crWrite cr (s1.crRead cr ^^^ v)).suppressCheck

/-- TRAPA (R356): the trap is entered by the next interrupt check. -/
def execTrapa (n : BitVec 4) (s : State) : Result := .next (requestTrap n s)

/-- RTE (R357). -/
def execRte (s : State) : Result := .next (returnFromException s)

/-- SLEEP (R358). -/
def execSleep (s : State) : Result := .next { s with cpu.sleep := true }

/-- NOP (R359). -/
def execNop (s : State) : Result := .next s

end Sys2Proof.Machine
end

