-- ==== Sys2Proof/Decode.lean ====
section
/-! DEFINITION. The decoders of MAIN16 (spec/30_encoding.md) and SUB8 (spec/47_sub_core_isa.md), and after them the
encoders. Both decoders are total: they read a list of bytes in order and answer with the instruction, or name what the
bytes are instead. -/

namespace Sys2Proof

/-- What the bytes read so far are. -/
inductive Decoded where
  /-- The instruction is not complete: one more byte is needed. -/
  | more
  /-- One instruction, and the bytes after it. -/
  | ok (i : Instr) (rest : List Byte)
  /-- An EA specifier (as an instruction of its own) followed by a reserved operation byte or combination (R131). The
  bytes up to the operation byte are consumed. -/
  | reservedOp (i : Instr) (rest : List Byte)
  /-- A reserved first or second byte of MAIN16 (R130), or a reserved SUB8 opcode (R470). -/
  | reserved (rest : List Byte)
  deriving DecidableEq, Repr

/-! ## Fields -/

/-- `rrr` (R113). -/
def Reg.ofBits (b : BitVec 3) : Reg :=
  match b.toNat with
  | 0 => .r0
  | 1 => .r1
  | 2 => .r2
  | 3 => .r3
  | 4 => .r4
  | 5 => .r5
  | 6 => .r6
  | _ => .r7

/-- The number of a register. -/
def Reg.toNat : Reg → Nat
  | .r0 => 0
  | .r1 => 1
  | .r2 => 2
  | .r3 => 3
  | .r4 => 4
  | .r5 => 5
  | .r6 => 6
  | .r7 => 7

/-- The low three bits of a byte as a register. -/
def Byte.reg (b : Byte) : Reg := Reg.ofBits (b.extractLsb' 0 3)

/-- Bit 3 of a byte as an operand size (R113). -/
def Byte.size (b : Byte) : Size := if b.getLsbD 3 then .word else .byte

/-- The control-register codes of R350. Codes 2 and 6 name nothing. -/
def CReg.ofBits (b : BitVec 3) : Option CReg :=
  match b.toNat with
  | 0 => some .sr
  | 1 => some .ccr
  | 3 => some .br
  | 4 => some .ep
  | 5 => some .dp
  | 7 => some .tp
  | _ => none

/-- The code of a control register (R350). -/
def CReg.toNat : CReg → Nat
  | .sr => 0
  | .ccr => 1
  | .br => 3
  | .ep => 4
  | .dp => 5
  | .tp => 7

/-- Read one byte of the stream, or ask for it. -/
def need1 (bs : List Byte) (k : Byte → List Byte → Decoded) : Decoded :=
  match bs with
  | [] => .more
  | b :: r => k b r

/-- Read a 16-bit field of the MAIN16 stream, high byte first (R112). -/
def need2 (bs : List Byte) (k : Word → List Byte → Decoded) : Decoded :=
  need1 bs fun h r => need1 r fun l r => k (Word.ofBytes h l) r

/-! ## MAIN16, general format -/

/-- The EA specifier row of R113 as an instruction. -/
def EA.toInstr : EA → Instr
  | .reg sz n => .eaReg sz n
  | .preDec sz n => .eaPreDec sz n
  | .postInc sz n => .eaPostInc sz n
  | .ind sz n => .eaInd sz n
  | .disp8 sz n d => .eaDisp8 sz n d
  | .disp16 sz n d => .eaDisp16 sz n d
  | .abs8 sz a => .eaAbs8 sz a
  | .abs16 sz a => .eaAbs16 sz a
  | .imm8 v => .eaImm8 v
  | .imm16 v => .eaImm16 v

/-- A candidate is an instruction if R120 and R131 admit it, else the combination is reserved. -/
def admit1 (ea : EA) (i : Instr) (rest : List Byte) : Decoded :=
  if i.wf then .ok i rest else .reservedOp ea.toInstr rest

/-- An operation on a control register; the codes 2 and 6 are reserved (R131). -/
def admitCr (ea : EA) (code : BitVec 3) (f : CReg → Instr) (rest : List Byte) : Decoded :=
  match CReg.ofBits code with
  | some cr => admit1 ea (f cr) rest
  | none => .reservedOp ea.toInstr rest

/-- Slots 0 to 3 of the operation table: R117, R118, R119. Reservedness is decided before the immediate bytes are
fetched (R132). -/
def decodeSlot (ea : EA) (op : Byte) (r : List Byte) : Decoded :=
  match op.toNat with
  | 0x04 => if (Instr.cmpGImm8 0 ea).wf then need1 r fun i r => .ok (.cmpGImm8 i ea) r else .reservedOp ea.toInstr r
  | 0x05 => if (Instr.cmpGImm16 0 ea).wf then need2 r fun i r => .ok (.cmpGImm16 i ea) r else .reservedOp ea.toInstr r
  | 0x06 => if (Instr.movGImm8 0 ea).wf then need1 r fun i r => .ok (.movGImm8 i ea) r else .reservedOp ea.toInstr r
  | 0x07 => if (Instr.movGImm16 0 ea).wf then need2 r fun i r => .ok (.movGImm16 i ea) r else .reservedOp ea.toInstr r
  | 0x08 => admit1 ea (.addQ .plus1 ea) r
  | 0x09 => admit1 ea (.addQ .plus2 ea) r
  | 0x0C => admit1 ea (.addQ .minus1 ea) r
  | 0x0D => admit1 ea (.addQ .minus2 ea) r
  | 0x10 => admit1 ea (.swap ea) r
  | 0x11 => admit1 ea (.exts ea) r
  | 0x12 => admit1 ea (.extu ea) r
  | 0x13 => admit1 ea (.clr ea) r
  | 0x14 => admit1 ea (.neg ea) r
  | 0x15 => admit1 ea (.not ea) r
  | 0x16 => admit1 ea (.tst ea) r
  | 0x17 => admit1 ea (.tas ea) r
  | 0x18 => admit1 ea (.shal ea) r
  | 0x19 => admit1 ea (.shar ea) r
  | 0x1A => admit1 ea (.shll ea) r
  | 0x1B => admit1 ea (.shlr ea) r
  | 0x1C => admit1 ea (.rotl ea) r
  | 0x1D => admit1 ea (.rotr ea) r
  | 0x1E => admit1 ea (.rotxl ea) r
  | 0x1F => admit1 ea (.rotxr ea) r
  | _ => .reservedOp ea.toInstr r

/-- The operation byte: the 32-entry table of R116, indexed by `op[7:3]`. -/
def decodeOp (ea : EA) (op : Byte) (r : List Byte) : Decoded :=
  let n := op.reg
  let c := op.extractLsb' 0 3
  let b := op.extractLsb' 0 4
  match op.toNat / 8 with
  | 0x00 | 0x01 | 0x02 | 0x03 => decodeSlot ea op r
  | 0x04 => admit1 ea (.addG ea n) r
  | 0x05 => admit1 ea (.adds ea n) r
  | 0x06 => admit1 ea (.sub ea n) r
  | 0x07 => admit1 ea (.subs ea n) r
  | 0x08 => admit1 ea (.or ea n) r
  | 0x09 => if ea.cls == .imm then admitCr ea c (.orc ea) r else admit1 ea (.bsetR n ea) r
  | 0x0A => admit1 ea (.and ea n) r
  | 0x0B => if ea.cls == .imm then admitCr ea c (.andc ea) r else admit1 ea (.bclrR n ea) r
  | 0x0C => admit1 ea (.xor ea n) r
  | 0x0D => if ea.cls == .imm then admitCr ea c (.xorc ea) r else admit1 ea (.bnotR n ea) r
  | 0x0E => admit1 ea (.cmpG ea n) r
  | 0x0F => admit1 ea (.btstR n ea) r
  | 0x10 => admit1 ea (.movGLoad ea n) r
  | 0x11 => admitCr ea c (.ldc ea) r
  | 0x12 => if ea.cls == .reg then admit1 ea (.xch n ea) r else admit1 ea (.movGStore n ea) r
  | 0x13 => admitCr ea c (fun cr => .stc cr ea) r
  | 0x14 => admit1 ea (.addx ea n) r
  | 0x15 => admit1 ea (.mulxu ea n) r
  | 0x16 => admit1 ea (.subx ea n) r
  | 0x17 => admit1 ea (.divxu ea n) r
  | 0x18 | 0x19 => admit1 ea (.bsetI b ea) r
  | 0x1A | 0x1B => admit1 ea (.bclrI b ea) r
  | 0x1C | 0x1D => admit1 ea (.bnotI b ea) r
  | _ => admit1 ea (.btstI b ea) r

/-- After a complete specifier comes the operation byte (R115). -/
def decodeGeneral (ea : EA) (bs : List Byte) : Decoded := need1 bs fun op r => decodeOp ea op r

/-! ## MAIN16, short format -/

/-- Bcc by its condition number (R300). -/
def bccOf (cc : Nat) (d : Disp) : Instr :=
  match cc with
  | 0 => .bra d
  | 1 => .brn d
  | 2 => .bhi d
  | 3 => .bls d
  | 4 => .bcc d
  | 5 => .bcs d
  | 6 => .bne d
  | 7 => .beq d
  | 8 => .bvc d
  | 9 => .bvs d
  | 10 => .bpl d
  | 11 => .bmi d
  | 12 => .bge d
  | 13 => .blt d
  | 14 => .bgt d
  | _ => .ble d

/-- The second byte after 0x11 (R122). -/
def decode11 (b1 : Byte) (r : List Byte) : Decoded :=
  let n := b1.reg
  match b1.toNat / 8 with
  | 0x18 => if n == .r7 then .reserved r else .ok (.pjmpInd n) r
  | 0x19 => if n == .r7 then .reserved r else .ok (.pjsrInd n) r
  | 0x1A => .ok (.jmpInd (.ind n)) r
  | 0x1B => .ok (.jsrInd (.ind n)) r
  | 0x1C => need1 r fun d r => .ok (.jmpInd (.disp8 n d)) r
  | 0x1D => need1 r fun d r => .ok (.jsrInd (.disp8 n d)) r
  | 0x1E => need2 r fun d r => .ok (.jmpInd (.disp16 n d)) r
  | 0x1F => need2 r fun d r => .ok (.jsrInd (.disp16 n d)) r
  | _ =>
    match b1.toNat with
    | 0x14 => need1 r fun i r => .ok (.prtd (.i8 i)) r
    | 0x19 => .ok .prts r
    | 0x1C => need2 r fun i r => .ok (.prtd (.i16 i)) r
    | _ => .reserved r

/-- SCB: the second byte is `1011 1rrr` (R123), then d8. -/
def decodeScb (f : Reg → Byte → Instr) (r : List Byte) : Decoded :=
  need1 r fun b1 r => if b1.toNat / 8 = 0x17 then need1 r fun d r => .ok (f b1.reg d) r else .reserved r

/-- First bytes 0x00 to 0x1F: R111, R121 and the absolute and immediate specifiers of R113. -/
def decodeLow (b0 : Byte) (r : List Byte) : Decoded :=
  match b0.toNat with
  | 0x00 => .ok .nop r
  | 0x01 => decodeScb .scbF r
  | 0x02 => need1 r fun l r => .ok (.ldm l) r
  | 0x03 => need1 r fun p r => need2 r fun a r => .ok (.pjsrAbs p a) r
  | 0x04 => need1 r fun v r => decodeGeneral (.imm8 v) r
  | 0x05 => need1 r fun a r => decodeGeneral (.abs8 .byte a) r
  | 0x06 => decodeScb .scbNe r
  | 0x07 => decodeScb .scbEq r
  | 0x08 => need1 r fun b1 r => if b1.toNat / 16 = 1 then .ok (.trapa (b1.extractLsb' 0 4)) r else .reserved r
  | 0x0A => .ok .rte r
  | 0x0C => need2 r fun v r => decodeGeneral (.imm16 v) r
  | 0x0D => need1 r fun a r => decodeGeneral (.abs8 .word a) r
  | 0x0E => need1 r fun d r => .ok (.bsr (.d8 d)) r
  | 0x0F => .ok .unlk r
  | 0x10 => need2 r fun a r => .ok (.jmpAbs a) r
  | 0x11 => need1 r decode11
  | 0x12 => need1 r fun l r => .ok (.stm l) r
  | 0x13 => need1 r fun p r => need2 r fun a r => .ok (.pjmpAbs p a) r
  | 0x14 => need1 r fun i r => .ok (.rtd (.i8 i)) r
  | 0x15 => need2 r fun a r => decodeGeneral (.abs16 .byte a) r
  | 0x17 => need1 r fun i r => .ok (.link (.i8 i)) r
  | 0x18 => need2 r fun a r => .ok (.jsrAbs a) r
  | 0x19 => .ok .rts r
  | 0x1A => .ok .sleep r
  | 0x1C => need2 r fun i r => .ok (.rtd (.i16 i)) r
  | 0x1D => need2 r fun a r => decodeGeneral (.abs16 .word a) r
  | 0x1E => need2 r fun d r => .ok (.bsr (.d16 d)) r
  | 0x1F => need2 r fun i r => .ok (.link (.i16 i)) r
  | _ => .reserved r

/-- The first byte, by its high four bits (R111, R113, R121). -/
def decodeFirst (b0 : Byte) (r : List Byte) : Decoded :=
  let n := b0.reg
  let sz := b0.size
  match b0.toNat / 16 with
  | 0x0 | 0x1 => decodeLow b0 r
  | 0x2 => need1 r fun d r => .ok (bccOf (b0.toNat % 16) (.d8 d)) r
  | 0x3 => need2 r fun d r => .ok (bccOf (b0.toNat % 16) (.d16 d)) r
  | 0x4 => if sz == .byte then need1 r fun i r => .ok (.cmpE i n) r else need2 r fun i r => .ok (.cmpI i n) r
  | 0x5 => if sz == .byte then need1 r fun i r => .ok (.movE i n) r else need2 r fun i r => .ok (.movI i n) r
  | 0x6 => need1 r fun a r => .ok (.movL sz a n) r
  | 0x7 => need1 r fun a r => .ok (.movS sz n a) r
  | 0x8 => need1 r fun d r => .ok (.movFLoad sz d n) r
  | 0x9 => need1 r fun d r => .ok (.movFStore sz n d) r
  | 0xA => decodeGeneral (.reg sz n) r
  | 0xB => decodeGeneral (.preDec sz n) r
  | 0xC => decodeGeneral (.postInc sz n) r
  | 0xD => decodeGeneral (.ind sz n) r
  | 0xE => need1 r fun d r => decodeGeneral (.disp8 sz n d) r
  | _ => need2 r fun d r => decodeGeneral (.disp16 sz n d) r

/-- The decoder of MAIN16 (R110, R153). -/
def decode (bs : List Byte) : Decoded := need1 bs decodeFirst

/-! ## SUB8 -/

/-- The opcodes of one mnemonic, by addressing mode. -/
abbrev SubOps := List (Nat × SubKind)

/-- R410. -/
def ldaOps : SubOps := [(0xA9, .imm), (0xA5, .zp), (0xB5, .zpx), (0xAD, .abs), (0xBD, .absx), (0xB9, .absy), (0xB1, .indy)]
/-- R411. -/
def ldxOps : SubOps := [(0xA2, .imm), (0xA6, .zp), (0xB6, .zpy), (0xAE, .abs), (0xBE, .absy)]
/-- R412. -/
def ldyOps : SubOps := [(0xA0, .imm), (0xA4, .zp), (0xB4, .zpx), (0xAC, .abs), (0xBC, .absx)]
/-- R413. -/
def staOps : SubOps := [(0x85, .zp), (0x95, .zpx), (0x8D, .abs), (0x9D, .absx), (0x99, .absy), (0x91, .indy)]
/-- R414. -/
def stxOps : SubOps := [(0x86, .zp), (0x96, .zpy), (0x8E, .abs)]
/-- R415. -/
def styOps : SubOps := [(0x84, .zp), (0x94, .zpx), (0x8C, .abs)]
/-- R430. -/
def adcOps : SubOps := [(0x69, .imm), (0x65, .zp), (0x75, .zpx), (0x6D, .abs), (0x7D, .absx), (0x79, .absy), (0x71, .indy)]
/-- R431. -/
def sbcOps : SubOps := [(0xE9, .imm), (0xE5, .zp), (0xF5, .zpx), (0xED, .abs), (0xFD, .absx), (0xF9, .absy), (0xF1, .indy)]
/-- R432. -/
def cmpOps : SubOps := [(0xC9, .imm), (0xC5, .zp), (0xD5, .zpx), (0xCD, .abs), (0xDD, .absx), (0xD9, .absy), (0xD1, .indy)]
/-- R433. -/
def cpxOps : SubOps := [(0xE0, .imm), (0xE4, .zp), (0xEC, .abs)]
/-- R434. -/
def cpyOps : SubOps := [(0xC0, .imm), (0xC4, .zp), (0xCC, .abs)]
/-- R435. -/
def incOps : SubOps := [(0x3A, .acc), (0xE6, .zp), (0xF6, .zpx), (0xEE, .abs), (0xFE, .absx)]
/-- R436. -/
def decOps : SubOps := [(0x1A, .acc), (0xC6, .zp), (0xD6, .zpx), (0xCE, .abs), (0xDE, .absx)]
/-- R441. -/
def andOps : SubOps := [(0x29, .imm), (0x25, .zp), (0x35, .zpx), (0x2D, .abs), (0x3D, .absx), (0x39, .absy), (0x31, .indy)]
/-- R442. -/
def oraOps : SubOps := [(0x09, .imm), (0x05, .zp), (0x15, .zpx), (0x0D, .abs), (0x1D, .absx), (0x19, .absy), (0x11, .indy)]
/-- R443. -/
def eorOps : SubOps := [(0x49, .imm), (0x45, .zp), (0x55, .zpx), (0x4D, .abs), (0x5D, .absx), (0x59, .absy), (0x51, .indy)]
/-- R444. -/
def bitOps : SubOps := [(0x24, .zp), (0x2C, .abs)]
/-- R445. -/
def aslOps : SubOps := [(0x0A, .acc), (0x06, .zp), (0x16, .zpx), (0x0E, .abs), (0x1E, .absx)]
/-- R446. -/
def lsrOps : SubOps := [(0x4A, .acc), (0x46, .zp), (0x56, .zpx), (0x4E, .abs), (0x5E, .absx)]
/-- R447. -/
def rolOps : SubOps := [(0x2A, .acc), (0x26, .zp), (0x36, .zpx), (0x2E, .abs), (0x3E, .absx)]
/-- R448. -/
def rorOps : SubOps := [(0x6A, .acc), (0x66, .zp), (0x76, .zpx), (0x6E, .abs), (0x7E, .absx)]

/-- A row of the table of mnemonics that take an addressing mode. -/
abbrev SubModeRow := SubOps × (SubMode → Instr)

/-- Loads and stores (R410 to R415). -/
def subMoveRows : List SubModeRow :=
  [(ldaOps, .s8Lda), (ldxOps, .s8Ldx), (ldyOps, .s8Ldy), (staOps, .s8Sta), (stxOps, .s8Stx), (styOps, .s8Sty)]

/-- Arithmetic and compare (R430 to R436). -/
def subArithRows : List SubModeRow :=
  [(adcOps, .s8Adc), (sbcOps, .s8Sbc), (cmpOps, .s8Cmp), (cpxOps, .s8Cpx), (cpyOps, .s8Cpy), (incOps, .s8Inc),
   (decOps, .s8Dec)]

/-- Logic and shifts (R441 to R448). -/
def subLogicRows : List SubModeRow :=
  [(andOps, .s8And), (oraOps, .s8Ora), (eorOps, .s8Eor), (bitOps, .s8Bit), (aslOps, .s8Asl), (lsrOps, .s8Lsr),
   (rolOps, .s8Rol), (rorOps, .s8Ror)]

/-- The mnemonics that take an addressing mode, each with its opcodes. -/
def subModeRows : List SubModeRow := List.append subMoveRows (List.append subArithRows subLogicRows)

/-- A row of the table of implied instructions. -/
abbrev SubImpliedRow := Nat × Instr

/-- Transfers and stack (R417 to R426). -/
def subTransferRows : List SubImpliedRow :=
  [(0xAA, .s8Tax), (0x8A, .s8Txa), (0xA8, .s8Tay), (0x98, .s8Tya), (0xBA, .s8Tsx), (0x9A, .s8Txs), (0x48, .s8Pha),
   (0x68, .s8Pla), (0x08, .s8Php), (0x28, .s8Plp)]

/-- Index registers, returns, BRK and NOP (R437 to R440, R462 to R464, R469). -/
def subIndexRows : List SubImpliedRow :=
  [(0xE8, .s8Inx), (0xC8, .s8Iny), (0xCA, .s8Dex), (0x88, .s8Dey), (0x60, .s8Rts), (0x40, .s8Rti), (0x00, .s8Brk),
   (0xEA, .s8Nop)]

/-- Flags (R471 to R477). -/
def subFlagRows : List SubImpliedRow :=
  [(0x18, .s8Clc), (0x38, .s8Sec), (0x58, .s8Cli), (0x78, .s8Sei), (0xB8, .s8Clv), (0xD8, .s8Cld), (0x12, .s8Clt)]

/-- The implied instructions with their opcodes. -/
def subImpliedRows : List SubImpliedRow := List.append subTransferRows (List.append subIndexRows subFlagRows)

/-- The relative branches with their opcodes (R450 to R458). -/
def subBranchRows : List (Nat × (Byte → Instr)) :=
  [(0x10, .s8Bpl), (0x30, .s8Bmi), (0x50, .s8Bvc), (0x70, .s8Bvs), (0x90, .s8Bcc), (0xB0, .s8Bcs), (0xD0, .s8Bne),
   (0xF0, .s8Beq), (0x80, .s8Bra)]

/-- Read a 16-bit field of the SUB8 stream, low byte first (R400, R403). -/
def needSub2 (bs : List Byte) (k : Word → List Byte → Decoded) : Decoded :=
  need1 bs fun l r => need1 r fun h r => k (Word.ofBytes h l) r

/-- Read the operand bytes of an addressing mode (R405). -/
def needMode (kind : SubKind) (r : List Byte) (k : SubMode → List Byte → Decoded) : Decoded :=
  match kind with
  | .acc => k .acc r
  | .imm => need1 r fun n r => k (.imm n) r
  | .zp => need1 r fun z r => k (.zp z) r
  | .zpx => need1 r fun z r => k (.zpx z) r
  | .zpy => need1 r fun z r => k (.zpy z) r
  | .abs => needSub2 r fun a r => k (.abs a) r
  | .absx => needSub2 r fun a r => k (.absx a) r
  | .absy => needSub2 r fun a r => k (.absy a) r
  | .indy => need1 r fun z r => k (.indy z) r

/-- The mode and the constructor of an opcode that takes an addressing mode. -/
def findMode (op : Nat) : List SubModeRow → Option (SubKind × (SubMode → Instr))
  | [] => none
  | (ops, f) :: rows =>
    match ops.lookup op with
    | some kind => some (kind, f)
    | none => findMode op rows

/-- Opcodes outside the bit families. -/
def decodeSubPlain (op : Nat) (r : List Byte) : Decoded :=
  match subImpliedRows.lookup op with
  | some i => .ok i r
  | none =>
    match subBranchRows.lookup op with
    | some f => need1 r fun d r => .ok (f d) r
    | none =>
      match findMode op subModeRows with
      | some (kind, f) => needMode kind r fun m r => .ok (f m) r
      | none =>
        match op with
        | 0x3C => need1 r fun n r => need1 r fun z r => .ok (.s8Ldm n z) r
        | 0x4C => needSub2 r fun a r => .ok (.s8JmpAbs a) r
        | 0x6C => needSub2 r fun a r => .ok (.s8JmpInd a) r
        | 0x20 => needSub2 r fun a r => .ok (.s8Jsr a) r
        | _ => .reserved r

/-- The opcode byte. The bit families have the pattern `(i << 5) | k` (R465 to R468). -/
def decodeSubFirst (op : Byte) (r : List Byte) : Decoded :=
  let i := op.extractLsb' 5 3
  match op.toNat % 32 with
  | 0x03 => need1 r fun d r => .ok (.s8Bbs i .acc d) r
  | 0x07 => need1 r fun z r => need1 r fun d r => .ok (.s8Bbs i (.zp z) d) r
  | 0x13 => need1 r fun d r => .ok (.s8Bbc i .acc d) r
  | 0x17 => need1 r fun z r => need1 r fun d r => .ok (.s8Bbc i (.zp z) d) r
  | 0x0B => .ok (.s8Seb i .acc) r
  | 0x0F => need1 r fun z r => .ok (.s8Seb i (.zp z)) r
  | 0x1B => .ok (.s8Clb i .acc) r
  | 0x1F => need1 r fun z r => .ok (.s8Clb i (.zp z)) r
  | _ => decodeSubPlain op.toNat r

/-- The decoder of SUB8 (R403, R470). -/
def decodeSub (bs : List Byte) : Decoded := need1 bs decodeSubFirst

/-! ## The encoders -/

/-- The two bytes of a word of the MAIN16 stream (R112). -/
def Word.beBytes (v : Word) : List Byte := [v.hi, v.lo]

/-- The two bytes of a word of the SUB8 stream (R400). -/
def Word.leBytes (v : Word) : List Byte := [v.lo, v.hi]

/-- `Sz` as bit 3 of a byte. -/
def Size.bit3 : Size → Nat
  | .byte => 0
  | .word => 8

/-- A byte from its number. -/
def byteOf (n : Nat) : Byte := BitVec.ofNat 8 n

/-- The specifier's bytes (R113). -/
def EA.encode : EA → List Byte
  | .reg sz n => [byteOf (0xA0 + sz.bit3 + n.toNat)]
  | .preDec sz n => [byteOf (0xB0 + sz.bit3 + n.toNat)]
  | .postInc sz n => [byteOf (0xC0 + sz.bit3 + n.toNat)]
  | .ind sz n => [byteOf (0xD0 + sz.bit3 + n.toNat)]
  | .disp8 sz n d => [byteOf (0xE0 + sz.bit3 + n.toNat), d]
  | .disp16 sz n d => byteOf (0xF0 + sz.bit3 + n.toNat) :: d.beBytes
  | .abs8 sz a => [byteOf (0x05 + sz.bit3), a]
  | .abs16 sz a => byteOf (0x15 + sz.bit3) :: a.beBytes
  | .imm8 v => [0x04#8, v]
  | .imm16 v => 0x0C#8 :: v.beBytes

/-- The opcode of a mode, 0xFF if the mnemonic does not have it (a well-formed instruction never asks for that). -/
def opcodeOf : SubOps → SubKind → Nat
  | [], _ => 0xFF
  | (op, k) :: t, kind => if k = kind then op else opcodeOf t kind

/-- The operand bytes of a mode (R405). -/
def SubMode.bytes : SubMode → List Byte
  | .acc => []
  | .imm n => [n]
  | .zp z | .zpx z | .zpy z | .indy z => [z]
  | .abs a | .absx a | .absy a => a.leBytes

/-- Opcode and operand bytes of a SUB8 instruction with an addressing mode. -/
def encodeMode (ops : SubOps) (m : SubMode) : List Byte := byteOf (opcodeOf ops m.kind) :: m.bytes

/-- An instruction of the bit families: `accK` and `zpK` are the low five bits of the two forms. -/
def encodeBit (accK zpK : Nat) (i : BitVec 3) (o : SubBitOperand) (tail : List Byte) : List Byte :=
  match o with
  | .acc => byteOf (i.toNat * 32 + accK) :: tail
  | .zp z => byteOf (i.toNat * 32 + zpK) :: z :: tail

/-- Bcc: `0010 cccc`, d8 or `0011 cccc`, d16 (R300). -/
def encodeBcc (cc : Nat) : Disp → List Byte
  | .d8 d => [byteOf (0x20 + cc), d]
  | .d16 d => byteOf (0x30 + cc) :: d.beBytes

/-- JMP and JSR through a register (R122): `base` is 0xD0 for JMP, 0xD8 for JSR. -/
def encodeJump (base : Nat) : JumpEA → List Byte
  | .ind n => [0x11#8, byteOf (base + n.toNat)]
  | .disp8 n d => [0x11#8, byteOf (base + 0x10 + n.toNat), d]
  | .disp16 n d => 0x11#8 :: byteOf (base + 0x20 + n.toNat) :: d.beBytes

/-- The low three bits of ADD:Q's operation byte (R118). -/
def Quick.code : Quick → Nat
  | .plus1 => 0
  | .plus2 => 1
  | .minus1 => 4
  | .minus2 => 5

/-- The bytes of a well-formed instruction, written from R113, R116 to R119, R121 to R123 and R405 to R477. An EA specifier
alone is written with the operation byte 0x00, which is reserved after every specifier (R117). -/
def encode : Instr → List Byte
  | .eaReg sz n => (EA.reg sz n).encode ++ [0x00#8]
  | .eaPreDec sz n => (EA.preDec sz n).encode ++ [0x00#8]
  | .eaPostInc sz n => (EA.postInc sz n).encode ++ [0x00#8]
  | .eaInd sz n => (EA.ind sz n).encode ++ [0x00#8]
  | .eaDisp8 sz n d => (EA.disp8 sz n d).encode ++ [0x00#8]
  | .eaDisp16 sz n d => (EA.disp16 sz n d).encode ++ [0x00#8]
  | .eaAbs8 sz a => (EA.abs8 sz a).encode ++ [0x00#8]
  | .eaAbs16 sz a => (EA.abs16 sz a).encode ++ [0x00#8]
  | .eaImm8 v => (EA.imm8 v).encode ++ [0x00#8]
  | .eaImm16 v => (EA.imm16 v).encode ++ [0x00#8]
  | .cmpGImm8 i ea => ea.encode ++ [0x04#8, i]
  | .cmpGImm16 i ea => ea.encode ++ 0x05#8 :: i.beBytes
  | .movGImm8 i ea => ea.encode ++ [0x06#8, i]
  | .movGImm16 i ea => ea.encode ++ 0x07#8 :: i.beBytes
  | .addQ q ea => ea.encode ++ [byteOf (0x08 + q.code)]
  | .swap ea => ea.encode ++ [0x10#8]
  | .exts ea => ea.encode ++ [0x11#8]
  | .extu ea => ea.encode ++ [0x12#8]
  | .clr ea => ea.encode ++ [0x13#8]
  | .neg ea => ea.encode ++ [0x14#8]
  | .not ea => ea.encode ++ [0x15#8]
  | .tst ea => ea.encode ++ [0x16#8]
  | .tas ea => ea.encode ++ [0x17#8]
  | .shal ea => ea.encode ++ [0x18#8]
  | .shar ea => ea.encode ++ [0x19#8]
  | .shll ea => ea.encode ++ [0x1A#8]
  | .shlr ea => ea.encode ++ [0x1B#8]
  | .rotl ea => ea.encode ++ [0x1C#8]
  | .rotr ea => ea.encode ++ [0x1D#8]
  | .rotxl ea => ea.encode ++ [0x1E#8]
  | .rotxr ea => ea.encode ++ [0x1F#8]
  | .addG ea rd => ea.encode ++ [byteOf (0x20 + rd.toNat)]
  | .adds ea rd => ea.encode ++ [byteOf (0x28 + rd.toNat)]
  | .sub ea rd => ea.encode ++ [byteOf (0x30 + rd.toNat)]
  | .subs ea rd => ea.encode ++ [byteOf (0x38 + rd.toNat)]
  | .or ea rd => ea.encode ++ [byteOf (0x40 + rd.toNat)]
  | .bsetR rs ea => ea.encode ++ [byteOf (0x48 + rs.toNat)]
  | .orc ea cr => ea.encode ++ [byteOf (0x48 + cr.toNat)]
  | .and ea rd => ea.encode ++ [byteOf (0x50 + rd.toNat)]
  | .bclrR rs ea => ea.encode ++ [byteOf (0x58 + rs.toNat)]
  | .andc ea cr => ea.encode ++ [byteOf (0x58 + cr.toNat)]
  | .xor ea rd => ea.encode ++ [byteOf (0x60 + rd.toNat)]
  | .bnotR rs ea => ea.encode ++ [byteOf (0x68 + rs.toNat)]
  | .xorc ea cr => ea.encode ++ [byteOf (0x68 + cr.toNat)]
  | .cmpG ea rd => ea.encode ++ [byteOf (0x70 + rd.toNat)]
  | .btstR rs ea => ea.encode ++ [byteOf (0x78 + rs.toNat)]
  | .movGLoad ea rd => ea.encode ++ [byteOf (0x80 + rd.toNat)]
  | .ldc ea cr => ea.encode ++ [byteOf (0x88 + cr.toNat)]
  | .movGStore rs ea => ea.encode ++ [byteOf (0x90 + rs.toNat)]
  | .xch rs ea => ea.encode ++ [byteOf (0x90 + rs.toNat)]
  | .stc cr ea => ea.encode ++ [byteOf (0x98 + cr.toNat)]
  | .addx ea rd => ea.encode ++ [byteOf (0xA0 + rd.toNat)]
  | .mulxu ea rd => ea.encode ++ [byteOf (0xA8 + rd.toNat)]
  | .subx ea rd => ea.encode ++ [byteOf (0xB0 + rd.toNat)]
  | .divxu ea rd => ea.encode ++ [byteOf (0xB8 + rd.toNat)]
  | .bsetI b ea => ea.encode ++ [byteOf (0xC0 + b.toNat)]
  | .bclrI b ea => ea.encode ++ [byteOf (0xD0 + b.toNat)]
  | .bnotI b ea => ea.encode ++ [byteOf (0xE0 + b.toNat)]
  | .btstI b ea => ea.encode ++ [byteOf (0xF0 + b.toNat)]
  | .nop => [0x00#8]
  | .scbF rc d => [0x01#8, byteOf (0xB8 + rc.toNat), d]
  | .ldm l => [0x02#8, l]
  | .pjsrAbs p a => 0x03#8 :: p :: a.beBytes
  | .scbNe rc d => [0x06#8, byteOf (0xB8 + rc.toNat), d]
  | .scbEq rc d => [0x07#8, byteOf (0xB8 + rc.toNat), d]
  | .trapa n => [0x08#8, byteOf (0x10 + n.toNat)]
  | .rte => [0x0A#8]
  | .bsr (.d8 d) => [0x0E#8, d]
  | .unlk => [0x0F#8]
  | .jmpAbs a => 0x10#8 :: a.beBytes
  | .stm l => [0x12#8, l]
  | .pjmpAbs p a => 0x13#8 :: p :: a.beBytes
  | .rtd (.i8 i) => [0x14#8, i]
  | .link (.i8 i) => [0x17#8, i]
  | .jsrAbs a => 0x18#8 :: a.beBytes
  | .rts => [0x19#8]
  | .sleep => [0x1A#8]
  | .rtd (.i16 i) => 0x1C#8 :: i.beBytes
  | .bsr (.d16 d) => 0x1E#8 :: d.beBytes
  | .link (.i16 i) => 0x1F#8 :: i.beBytes
  | .bra d => encodeBcc 0 d
  | .brn d => encodeBcc 1 d
  | .bhi d => encodeBcc 2 d
  | .bls d => encodeBcc 3 d
  | .bcc d => encodeBcc 4 d
  | .bcs d => encodeBcc 5 d
  | .bne d => encodeBcc 6 d
  | .beq d => encodeBcc 7 d
  | .bvc d => encodeBcc 8 d
  | .bvs d => encodeBcc 9 d
  | .bpl d => encodeBcc 10 d
  | .bmi d => encodeBcc 11 d
  | .bge d => encodeBcc 12 d
  | .blt d => encodeBcc 13 d
  | .bgt d => encodeBcc 14 d
  | .ble d => encodeBcc 15 d
  | .cmpE i rd => [byteOf (0x40 + rd.toNat), i]
  | .cmpI i rd => byteOf (0x48 + rd.toNat) :: i.beBytes
  | .movE i rd => [byteOf (0x50 + rd.toNat), i]
  | .movI i rd => byteOf (0x58 + rd.toNat) :: i.beBytes
  | .movL sz a rd => [byteOf (0x60 + sz.bit3 + rd.toNat), a]
  | .movS sz rs a => [byteOf (0x70 + sz.bit3 + rs.toNat), a]
  | .movFLoad sz d rd => [byteOf (0x80 + sz.bit3 + rd.toNat), d]
  | .movFStore sz rs d => [byteOf (0x90 + sz.bit3 + rs.toNat), d]
  | .prtd (.i8 i) => [0x11#8, 0x14#8, i]
  | .prts => [0x11#8, 0x19#8]
  | .prtd (.i16 i) => 0x11#8 :: 0x1C#8 :: i.beBytes
  | .pjmpInd n => [0x11#8, byteOf (0xC0 + n.toNat)]
  | .pjsrInd n => [0x11#8, byteOf (0xC8 + n.toNat)]
  | .jmpInd t => encodeJump 0xD0 t
  | .jsrInd t => encodeJump 0xD8 t
  | .s8Lda m => encodeMode ldaOps m
  | .s8Ldx m => encodeMode ldxOps m
  | .s8Ldy m => encodeMode ldyOps m
  | .s8Sta m => encodeMode staOps m
  | .s8Stx m => encodeMode stxOps m
  | .s8Sty m => encodeMode styOps m
  | .s8Ldm n z => [0x3C#8, n, z]
  | .s8Tax => [0xAA#8]
  | .s8Txa => [0x8A#8]
  | .s8Tay => [0xA8#8]
  | .s8Tya => [0x98#8]
  | .s8Tsx => [0xBA#8]
  | .s8Txs => [0x9A#8]
  | .s8Pha => [0x48#8]
  | .s8Pla => [0x68#8]
  | .s8Php => [0x08#8]
  | .s8Plp => [0x28#8]
  | .s8Adc m => encodeMode adcOps m
  | .s8Sbc m => encodeMode sbcOps m
  | .s8Cmp m => encodeMode cmpOps m
  | .s8Cpx m => encodeMode cpxOps m
  | .s8Cpy m => encodeMode cpyOps m
  | .s8Inc m => encodeMode incOps m
  | .s8Dec m => encodeMode decOps m
  | .s8Inx => [0xE8#8]
  | .s8Iny => [0xC8#8]
  | .s8Dex => [0xCA#8]
  | .s8Dey => [0x88#8]
  | .s8And m => encodeMode andOps m
  | .s8Ora m => encodeMode oraOps m
  | .s8Eor m => encodeMode eorOps m
  | .s8Bit m => encodeMode bitOps m
  | .s8Asl m => encodeMode aslOps m
  | .s8Lsr m => encodeMode lsrOps m
  | .s8Rol m => encodeMode rolOps m
  | .s8Ror m => encodeMode rorOps m
  | .s8Bpl r => [0x10#8, r]
  | .s8Bmi r => [0x30#8, r]
  | .s8Bvc r => [0x50#8, r]
  | .s8Bvs r => [0x70#8, r]
  | .s8Bcc r => [0x90#8, r]
  | .s8Bcs r => [0xB0#8, r]
  | .s8Bne r => [0xD0#8, r]
  | .s8Beq r => [0xF0#8, r]
  | .s8Bra r => [0x80#8, r]
  | .s8JmpAbs a => 0x4C#8 :: a.leBytes
  | .s8JmpInd a => 0x6C#8 :: a.leBytes
  | .s8Jsr a => 0x20#8 :: a.leBytes
  | .s8Rts => [0x60#8]
  | .s8Rti => [0x40#8]
  | .s8Brk => [0x00#8]
  | .s8Bbs i o r => encodeBit 0x03 0x07 i o [r]
  | .s8Bbc i o r => encodeBit 0x13 0x17 i o [r]
  | .s8Seb i o => encodeBit 0x0B 0x0F i o []
  | .s8Clb i o => encodeBit 0x1B 0x1F i o []
  | .s8Nop => [0xEA#8]
  | .s8Clc => [0x18#8]
  | .s8Sec => [0x38#8]
  | .s8Cli => [0x58#8]
  | .s8Sei => [0x78#8]
  | .s8Clv => [0xB8#8]
  | .s8Cld => [0xD8#8]
  | .s8Clt => [0x12#8]

/-! ## One number of the opcode table -/

/-- The most bytes an instruction has (R125). -/
def maxLength : Nat := 6

/-- The first `n` bytes of a number of the opcode table: byte 0 is its least significant byte. -/
def tableBytes : Nat → Nat → List Byte
  | 0, _ => []
  | n + 1, w => byteOf w :: tableBytes n (w / 256)

/-- Whether a table number is read as SUB8. The numbers of spec/opcode_table.json do not say which instruction set they
belong to: a SUB8 row's number is its whole opcode byte, a MAIN16 row's is its first byte, its second byte after 0x11 or
the operation byte after a specifier. A number whose low byte is an admitted SUB8 opcode is read as SUB8, any other as
MAIN16 (notes/assumptions/8.md). -/
def tableIsSub8 (bs : List Byte) : Bool :=
  match decodeSub bs with
  | .ok _ _ => true
  | _ => false

/-- The instruction the decoder reads from a number of the opcode table, every bit above `nbits` being 0. -/
def decodeTableWord (nbits w : Nat) : Option Instr :=
  let bs := tableBytes maxLength (w % 2 ^ nbits)
  match decodeSub bs with
  | .ok i _ => some i
  | _ =>
    match decode bs with
    | .ok i _ => some i
    | .reservedOp i _ => some i
    | _ => none

end Sys2Proof
end

