-- ==== Sys2Proof/Machine/Transfer.lean ====
section
/-! DEFINITION. The data-transfer instructions (spec/41_data_transfer.md). -/

namespace Sys2Proof.Machine

/-- MOV:G `<EA>,Rd` (R190). -/
def execMovGLoad (ea : EA) (rd : Reg) (s : State) : Result :=
  reading true ea s fun v s1 => moveToReg ea.size rd v s1

/-- MOV:G `Rs,<EA>` (R191): `Rs` is read after the specifier's side effect. -/
def execMovGStore (rs : Reg) (ea : EA) (s : State) : Result :=
  general (ea.cls == .mem) ea s fun o s1 =>
    let v := s1.regW ea.size rs
    (writeOp ea.size o v s1).setNzvc (logicFlags ea.size v s1.nzvc)

/-- MOV:G `#xx:8,<EA>` (R192): the immediate is sign-extended where the operand is a word. -/
def execMovGImm8 (i : Byte) (ea : EA) (s : State) : Result :=
  general (ea.cls == .mem) ea s fun o s1 =>
    let v := narrow ea.size (sext16 i)
    (writeOp ea.size o v s1).setNzvc (logicFlags ea.size v s1.nzvc)

/-- MOV:G `#xx:16,<EA>` (R193). -/
def execMovGImm16 (i : Word) (ea : EA) (s : State) : Result :=
  general (ea.cls == .mem && ea.size == .word) ea s fun o s1 =>
    (writeOp .word o i s1).setNzvc (logicFlags .word i s1.nzvc)

/-- XCH `Rs,Rd` (R203): a word register specifier names Rd. -/
def execXch (rs : Reg) (ea : EA) (s : State) : Result :=
  general (ea.cls == .reg && ea.size == .word) ea s fun o s1 =>
    match o with
    | .reg d => (s1.setReg d (s1.reg rs)).setReg rs (s1.reg d)
    | _ => s1

/-- SWAP `Rd` (R204): a byte register specifier, the operation is on the whole register. -/
def execSwap (ea : EA) (s : State) : Result :=
  general (ea.cls == .reg && ea.size == .byte) ea s fun o s1 =>
    match o with
    | .reg d => moveToReg .word d (swapBytes (s1.reg d)) s1
    | _ => s1

/-- MOV:E `#xx:8,Rd` (R194). -/
def execMovE (i : Byte) (rd : Reg) (s : State) : Result := .next (moveToReg .byte rd (i.setWidth 16) s)

/-- MOV:I `#xx:16,Rd` (R195). -/
def execMovI (i : Word) (rd : Reg) (s : State) : Result := .next (moveToReg .word rd i s)

/-- The address of `@aa:8` (R167, R196, R197). -/
def State.absShort (s : State) (a : Byte) : BusAddr := busAddr 0x00#8 (Word.ofBytes s.cpu.br a)

/-- The address of `@(d:8,FP)` (R198, R199). -/
def State.frameAddr (s : State) (d : Byte) : BusAddr := busAddr s.cpu.tp (s.reg .r6 + sext16 d)

/-- MOV:L `@aa:8,Rd` (R196). -/
def execMovL (sz : Size) (a : Byte) (rd : Reg) (s : State) : Result :=
  let v := memRead sz (s.absShort a) s
  .next (moveToReg sz rd v.1 v.2)

/-- MOV:S `Rs,@aa:8` (R197). -/
def execMovS (sz : Size) (rs : Reg) (a : Byte) (s : State) : Result :=
  .next (moveToMem sz (s.absShort a) (s.regW sz rs) s)

/-- MOV:F `@(d:8,FP),Rd` (R198). -/
def execMovFLoad (sz : Size) (d : Byte) (rd : Reg) (s : State) : Result :=
  let v := memRead sz (s.frameAddr d) s
  .next (moveToReg sz rd v.1 v.2)

/-- MOV:F `Rs,@(d:8,FP)` (R199). -/
def execMovFStore (sz : Size) (rs : Reg) (d : Byte) (s : State) : Result :=
  .next (moveToMem sz (s.frameAddr d) (s.regW sz rs) s)

/-- R[0] to R[6], the registers a list byte may name (R201, R202). -/
def listRegs : List Reg := [.r0, .r1, .r2, .r3, .r4, .r5, .r6]

/-- Pop every register of `rs` that the list names, in order (R201). -/
def popList (l : Byte) : List Reg → State → State
  | [], s => s
  | n :: rs, s => popList l rs (if l.getLsbD n.toNat then (pop16 s).2.setReg n (pop16 s).1 else s)

/-- Push every register of `rs` that the list names, in order (R202). -/
def pushList (l : Byte) : List Reg → State → State
  | [], s => s
  | n :: rs, s => pushList l rs (if l.getLsbD n.toNat then push16 (s.reg n) s else s)

/-- LDM `@SP+,<list>` (R201): the lowest number first. A list naming R[7] is unspecified: refused (U4). -/
def execLdm (list : Byte) (s : State) : Result :=
  if list.getLsbD 7 then .refused .listNamesSp else .next (popList list listRegs s)

/-- STM `<list>,@-SP` (R202): the highest number first. A list naming R[7] is unspecified: refused (U4). -/
def execStm (list : Byte) (s : State) : Result :=
  if list.getLsbD 7 then .refused .listNamesSp else .next (pushList list listRegs.reverse s)

end Sys2Proof.Machine
end

