-- ==== Sys2Proof/Machine/Dispatch.lean ====
section
/-! DEFINITION. One arm for each instruction: the meaning of the instruction, with every byte of it already fetched. -/

namespace Sys2Proof.Machine

def exec (i : Instr) (s : State) : Host.Outcome State Fault Refusal :=
  match i with
  | .eaReg sz n => Sys2Proof.Machine.execEaReg sz n s
  | .eaPreDec sz n => Sys2Proof.Machine.execEaPreDec sz n s
  | .eaPostInc sz n => Sys2Proof.Machine.execEaPostInc sz n s
  | .eaInd sz n => Sys2Proof.Machine.execEaInd sz n s
  | .eaDisp8 sz n d => Sys2Proof.Machine.execEaDisp8 sz n d s
  | .eaDisp16 sz n d => Sys2Proof.Machine.execEaDisp16 sz n d s
  | .eaAbs8 sz a => Sys2Proof.Machine.execEaAbs8 sz a s
  | .eaAbs16 sz a => Sys2Proof.Machine.execEaAbs16 sz a s
  | .eaImm8 v => Sys2Proof.Machine.execEaImm8 v s
  | .eaImm16 v => Sys2Proof.Machine.execEaImm16 v s
  | .movGLoad ea rd => Sys2Proof.Machine.execMovGLoad ea rd s
  | .movGStore rs ea => Sys2Proof.Machine.execMovGStore rs ea s
  | .movGImm8 n ea => Sys2Proof.Machine.execMovGImm8 n ea s
  | .movGImm16 n ea => Sys2Proof.Machine.execMovGImm16 n ea s
  | .xch rs ea => Sys2Proof.Machine.execXch rs ea s
  | .swap ea => Sys2Proof.Machine.execSwap ea s
  | .movE n rd => Sys2Proof.Machine.execMovE n rd s
  | .movI n rd => Sys2Proof.Machine.execMovI n rd s
  | .movL sz a rd => Sys2Proof.Machine.execMovL sz a rd s
  | .movS sz rs a => Sys2Proof.Machine.execMovS sz rs a s
  | .movFLoad sz d rd => Sys2Proof.Machine.execMovFLoad sz d rd s
  | .movFStore sz rs d => Sys2Proof.Machine.execMovFStore sz rs d s
  | .ldm list => Sys2Proof.Machine.execLdm list s
  | .stm list => Sys2Proof.Machine.execStm list s
  | .addG ea rd => Sys2Proof.Machine.execAddG ea rd s
  | .addQ q ea => Sys2Proof.Machine.execAddQ q ea s
  | .addx ea rd => Sys2Proof.Machine.execAddx ea rd s
  | .adds ea rd => Sys2Proof.Machine.execAdds ea rd s
  | .sub ea rd => Sys2Proof.Machine.execSub ea rd s
  | .subs ea rd => Sys2Proof.Machine.execSubs ea rd s
  | .subx ea rd => Sys2Proof.Machine.execSubx ea rd s
  | .cmpG ea rd => Sys2Proof.Machine.execCmpG ea rd s
  | .cmpGImm8 n ea => Sys2Proof.Machine.execCmpGImm8 n ea s
  | .cmpGImm16 n ea => Sys2Proof.Machine.execCmpGImm16 n ea s
  | .cmpE n rd => Sys2Proof.Machine.execCmpE n rd s
  | .cmpI n rd => Sys2Proof.Machine.execCmpI n rd s
  | .mulxu ea rd => Sys2Proof.Machine.execMulxu ea rd s
  | .divxu ea rd => Sys2Proof.Machine.execDivxu ea rd s
  | .exts ea => Sys2Proof.Machine.execExts ea s
  | .extu ea => Sys2Proof.Machine.execExtu ea s
  | .clr ea => Sys2Proof.Machine.execClr ea s
  | .neg ea => Sys2Proof.Machine.execNeg ea s
  | .tst ea => Sys2Proof.Machine.execTst ea s
  | .tas ea => Sys2Proof.Machine.execTas ea s
  | .and ea rd => Sys2Proof.Machine.execAnd ea rd s
  | .or ea rd => Sys2Proof.Machine.execOr ea rd s
  | .xor ea rd => Sys2Proof.Machine.execXor ea rd s
  | .not ea => Sys2Proof.Machine.execNot ea s
  | .shal ea => Sys2Proof.Machine.execShal ea s
  | .shar ea => Sys2Proof.Machine.execShar ea s
  | .shll ea => Sys2Proof.Machine.execShll ea s
  | .shlr ea => Sys2Proof.Machine.execShlr ea s
  | .rotl ea => Sys2Proof.Machine.execRotl ea s
  | .rotr ea => Sys2Proof.Machine.execRotr ea s
  | .rotxl ea => Sys2Proof.Machine.execRotxl ea s
  | .rotxr ea => Sys2Proof.Machine.execRotxr ea s
  | .bsetI b ea => Sys2Proof.Machine.execBsetI b ea s
  | .bsetR rs ea => Sys2Proof.Machine.execBsetR rs ea s
  | .bclrI b ea => Sys2Proof.Machine.execBclrI b ea s
  | .bclrR rs ea => Sys2Proof.Machine.execBclrR rs ea s
  | .bnotI b ea => Sys2Proof.Machine.execBnotI b ea s
  | .bnotR rs ea => Sys2Proof.Machine.execBnotR rs ea s
  | .btstI b ea => Sys2Proof.Machine.execBtstI b ea s
  | .btstR rs ea => Sys2Proof.Machine.execBtstR rs ea s
  | .bra d => Sys2Proof.Machine.execBra d s
  | .brn d => Sys2Proof.Machine.execBrn d s
  | .bhi d => Sys2Proof.Machine.execBhi d s
  | .bls d => Sys2Proof.Machine.execBls d s
  | .bcc d => Sys2Proof.Machine.execBcc d s
  | .bcs d => Sys2Proof.Machine.execBcs d s
  | .bne d => Sys2Proof.Machine.execBne d s
  | .beq d => Sys2Proof.Machine.execBeq d s
  | .bvc d => Sys2Proof.Machine.execBvc d s
  | .bvs d => Sys2Proof.Machine.execBvs d s
  | .bpl d => Sys2Proof.Machine.execBpl d s
  | .bmi d => Sys2Proof.Machine.execBmi d s
  | .bge d => Sys2Proof.Machine.execBge d s
  | .blt d => Sys2Proof.Machine.execBlt d s
  | .bgt d => Sys2Proof.Machine.execBgt d s
  | .ble d => Sys2Proof.Machine.execBle d s
  | .bsr d => Sys2Proof.Machine.execBsr d s
  | .jmpAbs a => Sys2Proof.Machine.execJmpAbs a s
  | .jmpInd t => Sys2Proof.Machine.execJmpInd t s
  | .jsrAbs a => Sys2Proof.Machine.execJsrAbs a s
  | .jsrInd t => Sys2Proof.Machine.execJsrInd t s
  | .pjmpAbs p a => Sys2Proof.Machine.execPjmpAbs p a s
  | .pjmpInd n => Sys2Proof.Machine.execPjmpInd n s
  | .pjsrAbs p a => Sys2Proof.Machine.execPjsrAbs p a s
  | .pjsrInd n => Sys2Proof.Machine.execPjsrInd n s
  | .rts => Sys2Proof.Machine.execRts s
  | .prts => Sys2Proof.Machine.execPrts s
  | .rtd n => Sys2Proof.Machine.execRtd n s
  | .prtd n => Sys2Proof.Machine.execPrtd n s
  | .scbF rc d => Sys2Proof.Machine.execScbF rc d s
  | .scbNe rc d => Sys2Proof.Machine.execScbNe rc d s
  | .scbEq rc d => Sys2Proof.Machine.execScbEq rc d s
  | .link n => Sys2Proof.Machine.execLink n s
  | .unlk => Sys2Proof.Machine.execUnlk s
  | .ldc ea cr => Sys2Proof.Machine.execLdc ea cr s
  | .stc cr ea => Sys2Proof.Machine.execStc cr ea s
  | .andc ea cr => Sys2Proof.Machine.execAndc ea cr s
  | .orc ea cr => Sys2Proof.Machine.execOrc ea cr s
  | .xorc ea cr => Sys2Proof.Machine.execXorc ea cr s
  | .trapa n => Sys2Proof.Machine.execTrapa n s
  | .rte => Sys2Proof.Machine.execRte s
  | .sleep => Sys2Proof.Machine.execSleep s
  | .nop => Sys2Proof.Machine.execNop s
  | .s8Lda m => Sys2Proof.Machine.execS8Lda m s
  | .s8Ldx m => Sys2Proof.Machine.execS8Ldx m s
  | .s8Ldy m => Sys2Proof.Machine.execS8Ldy m s
  | .s8Sta m => Sys2Proof.Machine.execS8Sta m s
  | .s8Stx m => Sys2Proof.Machine.execS8Stx m s
  | .s8Sty m => Sys2Proof.Machine.execS8Sty m s
  | .s8Ldm n z => Sys2Proof.Machine.execS8Ldm n z s
  | .s8Tax => Sys2Proof.Machine.execS8Tax s
  | .s8Txa => Sys2Proof.Machine.execS8Txa s
  | .s8Tay => Sys2Proof.Machine.execS8Tay s
  | .s8Tya => Sys2Proof.Machine.execS8Tya s
  | .s8Tsx => Sys2Proof.Machine.execS8Tsx s
  | .s8Txs => Sys2Proof.Machine.execS8Txs s
  | .s8Pha => Sys2Proof.Machine.execS8Pha s
  | .s8Pla => Sys2Proof.Machine.execS8Pla s
  | .s8Php => Sys2Proof.Machine.execS8Php s
  | .s8Plp => Sys2Proof.Machine.execS8Plp s
  | .s8Adc m => Sys2Proof.Machine.execS8Adc m s
  | .s8Sbc m => Sys2Proof.Machine.execS8Sbc m s
  | .s8Cmp m => Sys2Proof.Machine.execS8Cmp m s
  | .s8Cpx m => Sys2Proof.Machine.execS8Cpx m s
  | .s8Cpy m => Sys2Proof.Machine.execS8Cpy m s
  | .s8Inc m => Sys2Proof.Machine.execS8Inc m s
  | .s8Dec m => Sys2Proof.Machine.execS8Dec m s
  | .s8Inx => Sys2Proof.Machine.execS8Inx s
  | .s8Iny => Sys2Proof.Machine.execS8Iny s
  | .s8Dex => Sys2Proof.Machine.execS8Dex s
  | .s8Dey => Sys2Proof.Machine.execS8Dey s
  | .s8And m => Sys2Proof.Machine.execS8And m s
  | .s8Ora m => Sys2Proof.Machine.execS8Ora m s
  | .s8Eor m => Sys2Proof.Machine.execS8Eor m s
  | .s8Bit m => Sys2Proof.Machine.execS8Bit m s
  | .s8Asl m => Sys2Proof.Machine.execS8Asl m s
  | .s8Lsr m => Sys2Proof.Machine.execS8Lsr m s
  | .s8Rol m => Sys2Proof.Machine.execS8Rol m s
  | .s8Ror m => Sys2Proof.Machine.execS8Ror m s
  | .s8Bpl r => Sys2Proof.Machine.execS8Bpl r s
  | .s8Bmi r => Sys2Proof.Machine.execS8Bmi r s
  | .s8Bvc r => Sys2Proof.Machine.execS8Bvc r s
  | .s8Bvs r => Sys2Proof.Machine.execS8Bvs r s
  | .s8Bcc r => Sys2Proof.Machine.execS8Bcc r s
  | .s8Bcs r => Sys2Proof.Machine.execS8Bcs r s
  | .s8Bne r => Sys2Proof.Machine.execS8Bne r s
  | .s8Beq r => Sys2Proof.Machine.execS8Beq r s
  | .s8Bra r => Sys2Proof.Machine.execS8Bra r s
  | .s8JmpAbs a => Sys2Proof.Machine.execS8JmpAbs a s
  | .s8JmpInd a => Sys2Proof.Machine.execS8JmpInd a s
  | .s8Jsr a => Sys2Proof.Machine.execS8Jsr a s
  | .s8Rts => Sys2Proof.Machine.execS8Rts s
  | .s8Rti => Sys2Proof.Machine.execS8Rti s
  | .s8Brk => Sys2Proof.Machine.execS8Brk s
  | .s8Bbs n o r => Sys2Proof.Machine.execS8Bbs n o r s
  | .s8Bbc n o r => Sys2Proof.Machine.execS8Bbc n o r s
  | .s8Seb n o => Sys2Proof.Machine.execS8Seb n o s
  | .s8Clb n o => Sys2Proof.Machine.execS8Clb n o s
  | .s8Nop => Sys2Proof.Machine.execS8Nop s
  | .s8Clc => Sys2Proof.Machine.execS8Clc s
  | .s8Sec => Sys2Proof.Machine.execS8Sec s
  | .s8Cli => Sys2Proof.Machine.execS8Cli s
  | .s8Sei => Sys2Proof.Machine.execS8Sei s
  | .s8Clv => Sys2Proof.Machine.execS8Clv s
  | .s8Cld => Sys2Proof.Machine.execS8Cld s
  | .s8Clt => Sys2Proof.Machine.execS8Clt s

end Sys2Proof.Machine
end

