-- ==== Sys2Proof/Machine/Fetch.lean ====
section
/-! DEFINITION. Reading the instruction streams of the two cores, byte by byte as the decoder needs them
(spec/40_fetch_decode_dispatch.md R152, 47_sub_core_isa.md R403), and placing an instruction where it is read. -/

namespace Sys2Proof.Machine

/-- `Fetch8()` (R152). -/
def fetch8 (s : State) : Byte × State :=
  let r := read8 (busAddr s.cpu.cp s.cpu.pc) s
  (r.1, r.2.setPc (r.2.cpu.pc + 1#16))

/-- Read bytes until the decoder has an instruction or names a reserved encoding; `n` bounds the bytes still to come
(R125: at most 6), `bs` are those read. -/
def fetchMain : Nat → List Byte → State → Decoded × State
  | 0, bs, s => (decode bs, s)
  | n + 1, bs, s =>
    match decode bs with
    | .more => fetchMain n (bs ++ [(fetch8 s).1]) (fetch8 s).2
    | d => (d, s)

/-- `SubFetch8()` (R403). -/
def subFetch8 (s : State) : Byte × State :=
  let r := subRead s.sub.spc s
  (r.1, r.2.setSpc (r.2.sub.spc + 1#16))

/-- As `fetchMain`, for the sub core. -/
def fetchSub : Nat → List Byte → State → Decoded × State
  | 0, bs, s => (decodeSub bs, s)
  | n + 1, bs, s =>
    match decodeSub bs with
    | .more => fetchSub n (bs ++ [(subFetch8 s).1]) (subFetch8 s).2
    | d => (d, s)

/-- The end of ExecuteInstruction (R151): the trace test uses SR.T after the instruction. -/
def traceTest (s : State) : State := if s.srT then requestException .trace s else s

/-! ## Placing an instruction -/

/-- A byte put into the array a bus address names, as a loader or an earlier store would have (ROM images are loaded from
outside, R670). An address that names no array keeps what it has. -/
def pokeBus (pa : BusAddr) (v : Byte) (s : State) : State :=
  match s.target pa with
  | .rom1 i => { s with mem.rom1 := s.mem.rom1.write i v }
  | .rom2 i => { s with mem.rom2 := s.mem.rom2.write i v }
  | .ram i => { s with mem.ram := s.mem.ram.write i v }
  | .sram i => { s with mem.sram := s.mem.sram.write i v }
  | .shared i => if i < 0xC0 then { s with link.shram := s.link.shram.write i v } else s
  | _ => s

/-- Bytes put where the main core fetches from offset `off` on. -/
def pokeMain : List Byte → Word → State → State
  | [], _, s => s
  | v :: vs, off, s => pokeMain vs (off + 1#16) (pokeBus (busAddr s.cpu.cp off) v s)

/-- A byte put into the array a sub-core address names. -/
def pokeSub (a : Word) (v : Byte) (s : State) : State :=
  match subTarget a with
  | .ram i => { s with sub.ram := s.sub.ram.write i v }
  | .rom i => { s with sub.rom := s.sub.rom.write i v }
  | .shram i => { s with link.shram := s.link.shram.write i v }
  | _ => s

/-- Bytes put where the sub core fetches from address `a` on. -/
def pokeSubs : List Byte → Word → State → State
  | [], _, s => s
  | v :: vs, a, s => pokeSubs vs (a + 1#16) (pokeSub a v s)

/-- The bytes of a table number placed where the next step fetches (notes/assumptions/28.md): a SUB8 instruction at SPC, with
the sub core's turn next and none of its interrupts enabled; a MAIN16 instruction at CP:PC, with the main core's turn next,
awake, no host event waiting and the check of this quantum suppressed. -/
def placeWord (nbits w : Nat) (s : State) : State :=
  let bs := tableBytes maxLength (w % 2 ^ nbits)
  if tableIsSub8 bs then
    let t := pokeSubs bs s.sub.spc s
    { t with model.phase := .sub, link.intEnable := 0#5 }
  else
    let t := pokeMain bs s.cpu.pc s
    { t with model.phase := .main, model.hostIn := [], cpu.sleep := false, cpu.suppress := true }

end Sys2Proof.Machine
end

