-- ==== Sys2Proof/Machine/Reset.lean ====
section
/-! DEFINITION. What the host does between two quanta (spec/70_reset_and_hazards.md R650, R670). -/

namespace Sys2Proof.Machine

/-- The registers of every agent after `Reset()`, before the vector fetches (R50 to R53, R650). The memories, `S`, the
parameters and the model's own fields other than the phase stay (notes/assumptions/33.md). -/
def resetRegisters (s : State) : State :=
  { s with cpu := { Cpu.reset with pc := s.cpu.pc, cp := s.cpu.cp },
           dev := Dev.reset,
           sub := { s.sub with a := 0x00#8, x := 0x00#8, y := 0x00#8, p := 0x04#8, cycles := 0 },
           link := Link.reset s.link.shram,
           pcm := Pcm.reset s.params.voiceSlots.count s.pcm.waveRom,
           model.phase := .main }

/-- The sub core's reset vector (R52, R650); mk1 has no sub core (notes/assumptions/31.md). -/
def loadSubVector (s : State) : State :=
  match s.params.variant with
  | .mk1 => s
  | .mk2 => (subReadWord 0xFFFE#16 0xFFFF#16 s).2.setSpc (subReadWord 0xFFFE#16 0xFFFF#16 s).1

/-- `Reset()` (R650). -/
def hostReset (s : State) : State := loadSubVector (loadVector 0 (resetRegisters s))

/-- The source behind a line of `set_sci` (R549, R670). -/
def SciLine.source : SciLine → Source
  | .eri => .sciEri
  | .rxi => .sciRxi
  | .txi => .sciTxi

/-- One action of the host (R670). -/
def hostEvent (e : HostEvent) (s : State) : State :=
  match e with
  | .reset => hostReset s
  | .setNmi b => setLine .nmi b s
  | .setIrq1 b => setLine .irq1 b s
  | .setSci l b => setLine l.source b s
  | .setAdi b => setLine .adi b s
  | .postUart b => postUart b s
  | .tick => s

/-- The host's actions at one boundary: every event up to the next `tick`, which is consumed
(notes/assumptions/17.md). -/
def takeHost : List HostEvent → State → State
  | [], s => { s with model.hostIn := [] }
  | .tick :: es, s => { s with model.hostIn := es }
  | .reset :: es, s => takeHost es (hostEvent .reset s)
  | .setNmi b :: es, s => takeHost es (hostEvent (.setNmi b) s)
  | .setIrq1 b :: es, s => takeHost es (hostEvent (.setIrq1 b) s)
  | .setSci l b :: es, s => takeHost es (hostEvent (.setSci l b) s)
  | .setAdi b :: es, s => takeHost es (hostEvent (.setAdi b) s)
  | .postUart b :: es, s => takeHost es (hostEvent (.postUart b) s)

end Sys2Proof.Machine
end

