-- ==== Sys2Proof/Machine/Quantum.lean ====
section
/-! DEFINITION. The quantum (spec/40_fetch_decode_dispatch.md R150) as two kinds of step: its main part, up to the timer
update, and one turn of SubUpdate's loop (60_exceptions.md R591; notes/assumptions/2.md). -/

namespace Sys2Proof.Machine

/-! ## The main part -/

/-- `if suppress = 1 then suppress <- 0 else InterruptCheck()` (R150). -/
def boundaryCheck (s : State) : State :=
  if s.cpu.suppress then { s with cpu.suppress := false } else interruptCheck s

/-- What ExecuteInstruction does with the bytes it fetched (R151, R132). -/
def runDecoded (d : Decoded) (s : State) : Result :=
  match d with
  | .ok i _ =>
    match exec i s with
    | .next t => .next (traceTest t)
    | .fault r => .fault r
    | .refused r => .refused r
  | .reservedOp i _ =>
    match exec i s with
    | .next t => .next (traceTest (requestException .invalidInstruction t))
    | .fault r => .fault r
    | .refused r => .refused r
  | .reserved _ => .next (traceTest (requestException .invalidInstruction s))
  | .more => .next (traceTest (requestException .invalidInstruction s))

/-- `ExecuteInstruction()` (R151). -/
def executeInstruction (s : State) : Result :=
  runDecoded (fetchMain maxLength [] s).1 (fetchMain maxLength [] s).2

/-- The condition of SubUpdate's loop (R591): `sub_cycles < main_cycles * SUB_RATIO`, on mk2 only (R150). -/
def State.subBehind (s : State) : Bool :=
  s.params.variant == .mk2 && decide (s.sub.cycles * Config.subRatioDen < s.cpu.cycles * Config.subRatioNum)

/-- The part of the quantum that comes next. -/
def State.setPhase (s : State) : State := { s with model.phase := if s.subBehind then .sub else .main }

/-- `cycles <- cycles + CPI` (R150). -/
def addCycles (s : State) : State := { s with cpu.cycles := s.cpu.cycles + s.params.cpi }

/-- The quantum after the instruction, up to SubUpdate (R150). -/
def afterInstruction (s : State) : State := (timerUpdate (pcmUpdate (addCycles s))).setPhase

/-- `if sleep = 0 then ExecuteInstruction()`, then the rest of the main part (R150). -/
def instructionPart (s : State) : Result :=
  match (if s.cpu.sleep then .next s else executeInstruction s : Result) with
  | .next t => .next (afterInstruction t)
  | .fault r => .fault r
  | .refused r => .refused r

/-- The main part of a quantum (R150), the host's actions at its boundary first. -/
def mainStep (s : State) : Result := instructionPart (boundaryCheck (takeHost s.model.hostIn s))

/-! ## SubUpdate -/

/-- The end of SubStep (R403): `sub_cycles <- sub_cycles + SUB_CPI`. -/
def afterSubInstruction (s : State) : State := { s with sub.cycles := s.sub.cycles + Config.subCpi }.setPhase

/-- The instruction of SubStep (R403); a reserved opcode is refused (R470). -/
def runSubDecoded (opcode : Byte) (d : Decoded) (s : State) : Result :=
  match d with
  | .ok i _ =>
    match exec i s with
    | .next t => .next (afterSubInstruction t)
    | .fault r => .fault r
    | .refused r => .refused r
  | .reservedOp _ _ => .refused (.reservedSubOpcode opcode)
  | .reserved _ => .refused (.reservedSubOpcode opcode)
  | .more => .refused (.reservedSubOpcode opcode)

/-- The instruction fetch and execution of SubStep (R403). -/
def subInstructionPart (s : State) : Result :=
  let f := subFetch8 s
  let r := fetchSub (maxLength - 1) [f.1] f.2
  runSubDecoded f.1 r.1 r.2

/-- One turn of SubUpdate's loop (R591): SubDevUpdate, then SubStep. -/
def subStep (s : State) : Result := subInstructionPart (subInterruptCheck (subDevUpdate s))

/-- One step of the machine. -/
def quantumStep (s : State) : Result :=
  match s.model.phase with
  | .main => mainStep s
  | .sub => subStep s

end Sys2Proof.Machine
end

