-- ==== Sys2Proof/Machine/Step.lean ====
section
/-! DEFINITION. The step of the machine, and an instruction placed where the next step fetches. -/

namespace Sys2Proof.Machine

/-- One step: the main part of a quantum, or one turn of SubUpdate's loop (spec/40_fetch_decode_dispatch.md R150). -/
def step (s : State) : Host.Outcome State Fault Refusal := quantumStep s

/-- `s` with an instruction, numbered as spec/opcode_table.json numbers its bits, where the next step fetches. -/
def State.withFetchWord (s : State) (nbits w : Nat) : State := placeWord nbits w s

end Sys2Proof.Machine
end

