-- ==== Sys2Proof/Safety.lean ====
section
/-! DEFINITION. The terms the claims use: what an instruction leaves alone, one byte of an array, the legal states, the
halting predicate of spec/70_reset_and_hazards.md R672. -/

namespace Sys2Proof.Machine

/-! ## Frames -/

/-- `t` is `s` but for SR. -/
def SameButSr (s t : State) : Prop := t = { s with cpu.sr := t.cpu.sr }

/-- `t` is `s` but for the general registers. -/
def SameButRegs (s t : State) : Prop := t = { s with cpu.regs := t.cpu.regs }

/-- `t` is `s` but for the general registers and SR. -/
def SameButRegsSr (s t : State) : Prop := t = { s with cpu.regs := t.cpu.regs, cpu.sr := t.cpu.sr }

/-- Every general register but `n` is unchanged. -/
def OtherRegs (n : Reg) (s t : State) : Prop := ∀ m, m ≠ n → t.reg m = s.reg m

/-- SR but for its four flags is unchanged: T, I and the bits that do not exist (R25). -/
def SameSrSystem (s t : State) : Prop := ∀ i, 4 ≤ i → t.cpu.sr.getLsbD i = s.cpu.sr.getLsbD i

/-- The four flags have these values. -/
def FlagsAre (t : State) (n z v c : Bool) : Prop := t.nzvc = ⟨n, z, v, c⟩

/-- Only registers of the main core and what an access of its bus can change: everything but the sub core's registers, its
private arrays, the ROM images and the parameters. -/
def MainSide (s t : State) : Prop :=
  t.params = s.params ∧ t.sub = s.sub ∧ t.mem.rom1 = s.mem.rom1 ∧ t.mem.rom2 = s.mem.rom2 ∧ t.pcm.waveRom = s.pcm.waveRom

/-- `t` is `s` but for the sub core's registers. -/
def SameButSubRegs (s t : State) : Prop :=
  t = { s with sub.a := t.sub.a, sub.x := t.sub.x, sub.y := t.sub.y, sub.s := t.sub.s, sub.p := t.sub.p,
               sub.spc := t.sub.spc }

/-! ## One byte of an array -/

/-- The byte of the array a target names: ROM1, ROM2, RAM, SRAM, SHRAM. A target that is no array has no byte. -/
def State.arrayByte (s : State) : Target → Option Byte
  | .rom1 i => some (s.mem.rom1.read i)
  | .rom2 i => some (s.mem.rom2.read i)
  | .ram i => some (s.mem.ram.read i)
  | .sram i => some (s.mem.sram.read i)
  | .shared i => if i < 0xC0 then some (s.link.shram.read i) else none
  | .pcm _ => none
  | .dev _ => none
  | .ext => none
  | .unmapped => none

/-- A bus address of plain memory: RAM or SRAM, which store what is written and read it back. -/
def State.plainRam (s : State) (pa : BusAddr) : Bool :=
  match s.target pa with
  | .ram _ => true
  | .sram _ => true
  | _ => false

/-- A bus address whose read has no side effect and whose byte is an array's: ROM1, ROM2, RAM, SRAM. -/
def State.plainByte (s : State) (pa : BusAddr) : Bool :=
  match s.target pa with
  | .rom1 _ => true
  | .rom2 _ => true
  | .ram _ => true
  | .sram _ => true
  | _ => false

/-- Every byte of every array of the main bus is unchanged. -/
def ArraysKept (s t : State) : Prop := ∀ g, t.arrayByte g = s.arrayByte g

/-- Every array byte is unchanged but those the operand of width `sz` at `pa` names in `s`: the byte at `pa`, or the two bytes
at `pa & ~1` and the next address (R76, R77). -/
def ArraysKeptBut (sz : Size) (pa : BusAddr) (s t : State) : Prop :=
  match sz with
  | .byte => ∀ g, g ≠ s.target pa → t.arrayByte g = s.arrayByte g
  | .word =>
    ∀ g, g ≠ s.target (evenBelow pa) → g ≠ s.target (evenBelow pa + 1#20) → t.arrayByte g = s.arrayByte g

/-- Every array byte is unchanged but those a store of `v` of width `sz` at `pa` reaches: the byte at `pa`, or the byte at
`pa & ~1` and the one the next address names once that first byte is written (R76, R77), which under a `MEMMAP` of one's own
may be RAMCR and so move RAM in or out (R38, R83). -/
def ArraysKeptButStored (sz : Size) (pa : BusAddr) (v : Word) (s t : State) : Prop :=
  match sz with
  | .byte => ∀ g, g ≠ s.target pa → t.arrayByte g = s.arrayByte g
  | .word =>
    ∀ g, g ≠ s.target (evenBelow pa) → g ≠ (write8 (evenBelow pa) v.hi s).target (evenBelow pa + 1#20) →
      t.arrayByte g = s.arrayByte g

/-- The main core's registers, but for the exception slot and the pending table, are unchanged: what an access of the bus
leaves alone. -/
def CpuKept (s t : State) : Prop :=
  t.cpu = { s.cpu with excSlot := t.cpu.excSlot, intPending := t.cpu.intPending }

/-- A byte of the sub core's private RAM or of the shared RAM by its address, where the address names one. -/
def State.subArrayByte (s : State) : SubTarget → Option Byte
  | .ram i => some (s.sub.ram.read i)
  | .shram i => some (s.link.shram.read i)
  | .rom i => some (s.sub.rom.read i)
  | .acc _ => none
  | .dev _ => none
  | .unmapped => none

/-- Every array byte the sub core can reach is unchanged but the one at `a`. -/
def SubArraysKeptBut (a : Word) (s t : State) : Prop := ∀ g, g ≠ subTarget a → t.subArrayByte g = s.subArrayByte g

/-- The sub core's private side of a main-core access, and the main core's side of a sub-core access: everything but the
sub core and the link is unchanged, the host's record apart. -/
def SubSide (s t : State) : Prop :=
  t.params = s.params ∧ t.cpu = s.cpu ∧ t.mem = s.mem ∧ t.dev = s.dev ∧ t.pcm = s.pcm ∧ t.sub.rom = s.sub.rom ∧
    t.sub.cycles = s.sub.cycles ∧ t.model.phase = s.model.phase ∧ t.model.hostIn = s.model.hostIn

/-! ## Legal states -/

/-- Every array is in its canonical form and within its size (R37, R43, R83). -/
def State.arraysOk (s : State) : Bool :=
  s.mem.rom1.wf 0x8000 && s.mem.rom2.wf s.params.rom2Len && s.mem.ram.wf 0x400 && s.mem.sram.wf 0x8000 &&
  s.sub.rom.wf 0x1000 && s.sub.ram.wf 0x80 && s.link.shram.wf 0xC0 && s.link.stored.wf 0x20

/-- The bits of SR that do not exist read 0 (R25, R26), and the B bit of P (R426). -/
def State.statusOk (s : State) : Bool := s.cpu.sr &&& ~~~0x870F#16 == 0#16 && !s.sub.p.getLsbD 4

/-- A free-running timer's TCSR: bit 7 reads 0 (R38), and a flag that is 0 has shadow 0 (R575). -/
def Frt.statusOk (t : Frt) : Bool := !t.tcsr.getLsbD 7 && t.rdShadow &&& ~~~(t.tcsr &&& frtFlags) == 0#8

/-- The 8-bit timer's TCSR: bit 4 reads 0 (R38), and a flag that is 0 has shadow 0 (R575). -/
def Tmr.statusOk (t : Tmr) : Bool := !t.tcsr.getLsbD 4 && t.rdShadow &&& ~~~(t.tcsr &&& tmrFlags) == 0#8

/-- All four timers. -/
def State.timersOk (s : State) : Bool :=
  s.dev.frt0.statusOk && s.dev.frt1.statusOk && s.dev.frt2.statusOk && s.dev.tmr.statusOk

/-- The engine has NVOICES slots and no key-on bit beyond them (R47, R48). -/
def State.voicesOk (s : State) : Bool :=
  s.pcm.voices.length == s.params.voiceSlots.count &&
  s.pcm.keyonCommitted &&& ~~~(keyonMask s.params) == 0#32 && s.pcm.keyonPending &&& ~~~(keyonMask s.params) == 0#32

/-- The sub core has its turn on mk2 only (R150, R590). -/
def State.phaseOk (s : State) : Bool := s.model.phase == .main || s.params.variant == .mk2

/-- A legal state. -/
def State.legal (s : State) : Bool :=
  s.arraysOk && s.statusOk && s.timersOk && s.voicesOk && s.phaseOk

/-- The interrupt lines are levels: each timer source is pending exactly when its flag and its enable are set (R579), and
IRQ0 exactly while a voice interrupt is in flight (R638, R640). -/
def State.linesOk (s : State) : Bool :=
  (s.dev.lines.all fun l => s.pending l.1 == l.2) && s.pending .irq0 == s.pcm.voiceIrqPending

/-- No agent is behind the main core's cycle counter at the end of the main part of a quantum: R570's loop and R630's loop
have run out. -/
def State.caughtUp (s : State) : Bool :=
  decide (s.cpu.cycles ≤ s.dev.tclk * s.params.timerDiv) && decide (s.cpu.cycles ≤ s.pcm.pcmCycles)

/-- `Halted(s)` of R672. -/
def State.halted (s : State) : Bool :=
  s.cpu.sleep && s.cpu.trapPending == 0#16 && s.cpu.excSlot == none && s.cpu.intPending == 0#19

/-! ## The parts of a quantum -/

/-- `t` after the trace test of R151: Trace is requested exactly where SR.T is 1, and a request already in the slot stays
(R505). -/
def traced (t : State) : State :=
  { t with cpu.excSlot :=
      if t.cpu.sr.getLsbD 15 = true then
        match t.cpu.excSlot with
        | none => some .trace
        | some k => some k
      else t.cpu.excSlot }

/-- The sub core is behind (R591), which on mk1 it never is (R590): `sub_cycles < cycles * SUB_RATIO`. -/
def SubBehind (s : State) : Prop :=
  s.params.variant = .mk2 ∧ s.sub.cycles * Config.subRatioDen < s.cpu.cycles * Config.subRatioNum

/-- `u` is `t` after the rest of the main part of a quantum (R150): CPI is added to the cycle counter, then the PCM engine and
then the timers catch up with it, and the sub core has the next turn exactly where it is behind. -/
def QuantumEnd (t u : State) : Prop :=
  u = { timerUpdate (pcmUpdate { t with cpu.cycles := t.cpu.cycles + t.params.cpi }) with model.phase := u.model.phase } ∧
    (u.model.phase = .sub ↔ SubBehind u)

/-- `u` is `t` after the end of a sub-core step (R403, R591): SUB_CPI is added to `sub_cycles`, and the sub core has the next
turn exactly where it is still behind. -/
def SubTurnEnd (t u : State) : Prop :=
  u = { t with sub.cycles := t.sub.cycles + Config.subCpi, model.phase := u.model.phase } ∧
    (u.model.phase = .sub ↔ SubBehind u)

/-- The interrupt lines the host alone drives (R670). -/
def hostLines : List Source := [.nmi, .irq1, .sciEri, .sciRxi, .sciTxi, .adi]

/-- `t` is `s` but for the interrupt line `x`, which is `b` (R507). -/
def LineSet (x : Source) (b : Bool) (s t : State) : Prop :=
  t = { s with cpu.intPending := t.cpu.intPending } ∧ t.pending x = b ∧ ∀ y, y ≠ x → t.pending y = s.pending y

/-- `t` is `s` but for the link, and what an access `a` of a shared byte leaves of it (R609, R621, R622): the bytes, the
access flags, and where COLLISION_RULE is on and fires, bit 0 of the collision register and bit 7 of the pending bits. -/
def SharedFrame (a : SharedAccess) (s t : State) : Prop :=
  let fires := s.params.collisionOn && Config.collisionRule a
  t = { s with link := { s.link with shram := t.link.shram, acc := t.link.acc, collision := t.link.collision,
                                     intPending := t.link.intPending } } ∧
    (∀ k, k < 8 → t.link.collision.getLsbD k = (s.link.collision.getLsbD k || (decide (k = 0) && fires))) ∧
    ∀ k, k < 8 → t.link.intPending.getLsbD k = (s.link.intPending.getLsbD k || (decide (k = 7) && fires))

/-! ## Operands of the general format -/

/-- The register a specifier changes: pre-decrement and post-increment (R164, R166). -/
def steppedReg : EA → Option Reg
  | .preDec _ n | .postInc _ n => some n
  | .reg _ _ | .ind _ _ | .disp8 _ _ _ | .disp16 _ _ _ | .abs8 _ _ | .abs16 _ _ | .imm8 _ | .imm16 _ => none

/-- The operand's value, and the state after the specifier is resolved and the operand read (R171 steps 1 and 5). -/
def State.fetched (s : State) (ea : EA) : Word × State := readOp ea.size (resolveEA ea s).1 (resolveEA ea s).2

/-- The bus address of the operand a specifier names, where it is a memory operand. -/
def State.operandAddr (s : State) (ea : EA) : Option BusAddr :=
  match (resolveEA ea s).1 with
  | .mem pa => some pa
  | .reg _ => none
  | .imm _ => none

/-- The exception slot after accesses of width `sz` at `pa`: a word access at an odd address requests AddressError
(R75, R77). -/
def slotAfterAccess (sz : Size) (pa : Option BusAddr) (old : Option ExcKind) : Option ExcKind :=
  match pa with
  | none => old
  | some a => if sz = .word ∧ a.toNat % 2 = 1 then slotAfter .addressError old else old


/-- The bus addresses are of RAM or SRAM, and no two of them name one byte (`MEMMAP` may show a byte at several). -/
def State.distinctRam (s : State) (as : List BusAddr) : Bool :=
  as.all s.plainRam && decide (as.map s.target).Nodup

/-- The bus addresses an access of width `sz` at `pa` touches (R74 to R77). -/
def accessBytes (sz : Size) (pa : BusAddr) : List BusAddr :=
  match sz with
  | .byte => [pa]
  | .word => [evenBelow pa, evenBelow pa + 1#20]

/-- Every byte an access of width `sz` at `pa` reads is a byte of ROM1, ROM2, RAM or SRAM. -/
def State.plainAt (s : State) (sz : Size) (pa : BusAddr) : Bool := (accessBytes sz pa).all s.plainByte

/-- Every byte an access of width `sz` at `pa` stores is a byte of RAM or SRAM of its own. -/
def State.ramAt (s : State) (sz : Size) (pa : BusAddr) : Bool := s.distinctRam (accessBytes sz pa)

/-- The number that `sz` bytes at `pa` hold, the byte at the lower address the more significant, a word at the even
address below (R73, R75). -/
def State.valueAt (s : State) (sz : Size) (pa : BusAddr) : Nat :=
  match sz with
  | .byte => (peek8 s pa).toNat
  | .word => (peek8 s (evenBelow pa)).toNat * 256 + (peek8 s (evenBelow pa + 1#20)).toNat

/-- Reading the operand has no side effect outside the CPU: it is no memory operand, or one in ROM1, ROM2, RAM, SRAM
(R82). -/
def State.quiet (s : State) (ea : EA) : Bool :=
  match s.operandAddr ea with
  | none => true
  | some pa => s.plainAt ea.size pa

/-! ## What an instruction leaves alone -/

/-- PC, the page registers, the cycle counter, `sleep`, `suppress` and the pending traps are unchanged. -/
def SameControl (s t : State) : Prop :=
  t.cpu.pc = s.cpu.pc ∧ t.cpu.cp = s.cpu.cp ∧ t.cpu.dp = s.cpu.dp ∧ t.cpu.ep = s.cpu.ep ∧ t.cpu.tp = s.cpu.tp ∧
    t.cpu.br = s.cpu.br ∧ t.cpu.cycles = s.cpu.cycles ∧ t.cpu.sleep = s.cpu.sleep ∧ t.cpu.suppress = s.cpu.suppress ∧
    t.cpu.trapPending = s.cpu.trapPending

/-- Devices, link, PCM engine, interrupt lines and the model's own fields are unchanged. -/
def SameOutside (s t : State) : Prop :=
  t.dev = s.dev ∧ t.link = s.link ∧ t.pcm = s.pcm ∧ t.model = s.model ∧ t.cpu.intPending = s.cpu.intPending

/-- The register a specifier steps holds what the specifier left, every register but it and those of `rds` is
unchanged. -/
def SteppedRegs (ea : EA) (rds : List Reg) (s t : State) : Prop :=
  (∀ m, m ∉ rds → steppedReg ea ≠ some m → t.reg m = s.reg m) ∧
    (∀ m, m ∉ rds → steppedReg ea = some m → t.reg m = (resolveEA ea s).2.reg m)

/-- The frame of an instruction that reads the operand of `ea` and writes at most the registers of `rds` and the four flags:
no byte of memory changes, and nothing outside the CPU where reading the operand has no side effect. -/
def RegisterFrame (ea : EA) (rds : List Reg) (s t : State) : Prop :=
  SameControl s t ∧ MainSide s t ∧ SameSrSystem s t ∧ ArraysKept s t ∧ SteppedRegs ea rds s t ∧
    t.cpu.excSlot = slotAfterAccess ea.size (s.operandAddr ea) s.cpu.excSlot ∧
    (s.quiet ea = true → SameOutside s t ∧ t.mem = s.mem)

/-- The register an operand is, where it is one. -/
def directReg : EA → List Reg
  | .reg _ n => [n]
  | .preDec _ _ | .postInc _ _ | .ind _ _ | .disp8 _ _ _ | .disp16 _ _ _ | .abs8 _ _ | .abs16 _ _ | .imm8 _
  | .imm16 _ => []

/-- The frame of an instruction that writes `v` to its operand, and the four flags: every byte of memory outside the operand
is unchanged. -/
def OperandFrame (ea : EA) (v : Word) (s t : State) : Prop :=
  SameControl s t ∧ MainSide s t ∧ SameSrSystem s t ∧ SteppedRegs ea (directReg ea) s t ∧
    t.cpu.excSlot = slotAfterAccess ea.size (s.operandAddr ea) s.cpu.excSlot ∧
    match s.operandAddr ea with
    | some pa => ArraysKeptButStored ea.size pa v s t ∧ (s.ramAt ea.size pa = true → SameOutside s t)
    | none => t.mem = s.mem ∧ SameOutside s t

/-! ## Shapes of an instruction's effect -/

/-- `i` is turned away as reserved: the specifier's side effect is kept, InvalidInstruction is requested, nothing else
changes (R132). -/
def TurnedAway (i : Instr) (ea : EA) (s : State) : Prop :=
  ∃ t, exec i s = .next t ∧ SteppedRegs ea [] s t ∧
    t = { s with cpu.regs := t.cpu.regs, cpu.excSlot := slotAfter .invalidInstruction s.cpu.excSlot }

/-- `i` completes: it reads the operand of `ea`, leaves the number `r` in all 16 bits of `rd` and the flags `f`. -/
def LoadsRegister (i : Instr) (ea : EA) (rd : Reg) (r : Nat) (f : Nzvc) (s : State) : Prop :=
  ∃ t, exec i s = .next t ∧ (t.reg rd).toNat = r ∧ t.nzvc = f ∧ SameButRegsSr (s.fetched ea).2 t ∧
    RegisterFrame ea [rd] s t

/-- `i` completes: it reads the operand of `ea` and leaves the flags `f`. -/
def ReadsOperand (i : Instr) (ea : EA) (f : Nzvc) (s : State) : Prop :=
  ∃ t, exec i s = .next t ∧ t.nzvc = f ∧ SameButSr (s.fetched ea).2 t ∧ RegisterFrame ea [] s t

/-- `i` completes: from the state `u` it writes the number `r` to the operand of `ea` and leaves the flags `f`. A register
operand keeps its bits above the width; a memory operand in RAM or SRAM reads back as `r`. -/
def WritesOperand (i : Instr) (ea : EA) (r : Nat) (f : Nzvc) (u s : State) : Prop :=
  ∃ t, exec i s = .next t ∧ t.nzvc = f ∧ OperandFrame ea (BitVec.ofNat 16 r) s t ∧
    match (resolveEA ea s).1 with
    | .reg n => (t.reg n).toNat = (s.reg n).toNat / 2 ^ ea.size.bits * 2 ^ ea.size.bits + r
    | .mem pa =>
      SameButSr (memWrite ea.size pa (BitVec.ofNat 16 r) u) t ∧
        (s.arraysOk = true → s.ramAt ea.size pa = true → t.valueAt ea.size pa = r)
    | .imm _ => False

/-! ## Flags as arithmetic -/

/-- The signed reading of a number below `m`, `m` a power of two. -/
def signedMod (m a : Nat) : Int := Int.bmod a m

/-- The sum modulo `m`. -/
def sumOf (m a b c : Nat) : Nat := (a + b + c) % m

/-- The flags of `a + b + c` at modulus `m`: V says that the exact signed sum does not fit. -/
def sumFlags (m a b c : Nat) : Nzvc :=
  let s := signedMod m a + signedMod m b + (c : Int)
  { n := decide (m ≤ 2 * sumOf m a b c), z := decide (sumOf m a b c = 0), v := decide (Int.bmod s m ≠ s),
    c := decide (m ≤ a + b + c) }

/-- The difference modulo `m` of numbers below `m`. -/
def diffOf (m a b c : Nat) : Nat := (a + 2 * m - b - c) % m

/-- The flags of `a - b - c` at modulus `m`: C is the borrow. -/
def diffFlags (m a b c : Nat) : Nzvc :=
  let s := signedMod m a - signedMod m b - (c : Int)
  { n := decide (m ≤ 2 * diffOf m a b c), z := decide (diffOf m a b c = 0), v := decide (Int.bmod s m ≠ s),
    c := decide (a < b + c) }

/-- N and Z of a number below `m`, with V and C given. -/
def valueFlags (m r : Nat) (v c : Bool) : Nzvc := { n := decide (m ≤ 2 * r), z := decide (r = 0), v := v, c := c }

/-! ## The stack of the main core -/

/-- The address of the word a push stores (R170). -/
def State.pushAddr (s : State) : BusAddr := busAddr s.cpu.tp (s.reg .r7 - 2#16)

/-- The address of the word a pop reads (R170). -/
def State.popAddr (s : State) : BusAddr := busAddr s.cpu.tp (s.reg .r7)

/-- The bytes of `n` words on the stack from offset `base` up, wherever they lie: an odd offset names the even one below
(R75, R77). -/
def State.stackBytes (s : State) (base : Word) (n : Nat) : List BusAddr :=
  (List.range n).flatMap fun j => accessBytes .word (busAddr s.cpu.tp (base + BitVec.ofNat 16 (2 * j)))

/-- The `n` words on the stack from offset `base` up are in RAM or SRAM, every byte of its own. -/
def State.stackRam (s : State) (base : Word) (n : Nat) : Bool := s.distinctRam (s.stackBytes base n)

/-- `t` is `s` after a push of `v` (R170): R[7] goes down by two and the word is written at the new address, wherever that
leads; no other register and no other byte of memory changes, and in RAM the word reads back. -/
def Pushed (v : Word) (s t : State) : Prop :=
  t = memWrite16 s.pushAddr v (s.setReg .r7 (s.reg .r7 - 2#16)) ∧
  (t.reg .r7).toNat = ((s.reg .r7).toNat + 0xFFFE) % 0x10000 ∧ (∀ m, m ≠ .r7 → t.reg m = s.reg m) ∧
    SameControl s t ∧ MainSide s t ∧ t.cpu.sr = s.cpu.sr ∧ ArraysKeptButStored .word s.pushAddr v s t ∧
    t.cpu.excSlot = slotAfterAccess .word (some s.pushAddr) s.cpu.excSlot ∧
    (s.ramAt .word s.pushAddr = true → SameOutside s t ∧
      (s.arraysOk = true → t.valueAt .word s.pushAddr = v.toNat))

/-- `t` is `s` after a pop that gave `v` (R170): the word is read at R[7], wherever that leads, R[7] goes up by two, nothing
else of the CPU but the slot changes, no byte of memory changes. -/
def Popped (v : Word) (s t : State) : Prop :=
  v = (memRead16 s.popAddr s).1 ∧ t = (memRead16 s.popAddr s).2.setReg .r7 (s.reg .r7 + 2#16) ∧
  (t.reg .r7).toNat = ((s.reg .r7).toNat + 2) % 0x10000 ∧ (∀ m, m ≠ .r7 → t.reg m = s.reg m) ∧
    SameControl s t ∧ MainSide s t ∧ t.cpu.sr = s.cpu.sr ∧ ArraysKept s t ∧
    t.cpu.excSlot = slotAfterAccess .word (some s.popAddr) s.cpu.excSlot ∧
    (s.plainAt .word s.popAddr = true → SameOutside s t ∧ v.toNat = s.valueAt .word s.popAddr)

/-- `t` is `s` after the registers of a list are pushed, the first of the list first (R202). -/
def PushedAll : List Reg → State → State → Prop
  | [], s, t => t = s
  | n :: ns, s, t => ∃ u, Pushed (s.reg n) s u ∧ PushedAll ns u t

/-- `t` is `s` after the registers of a list are popped, the first of the list first (R201). -/
def PoppedAll : List Reg → State → State → Prop
  | [], s, t => t = s
  | n :: ns, s, t => ∃ v u, Popped v s u ∧ PoppedAll ns (u.setReg n v) t

/-- The registers a list byte names, lowest number first (R201). -/
def listedRegs (l : Byte) : List Reg :=
  [Reg.r0, .r1, .r2, .r3, .r4, .r5, .r6].filter fun n => l.getLsbD n.toNat

/-! ## Address maps -/

/-- The table of R83, the first matching row, from the bus address as a number. -/
def r83Target (v : Variant) (rame : Bool) (rom2Len pa : Nat) : Target :=
  if pa < 0x8000 then .rom1 pa
  else if v = .mk2 ∧ 0xE000 ≤ pa ∧ pa < 0xE400 then .pcm (BitVec.ofNat 6 (pa % 0x40))
  else if v = .mk1 ∧ 0xE000 ≤ pa ∧ pa < 0xE040 then .pcm (BitVec.ofNat 6 (pa % 0x40))
  else if v = .mk2 ∧ 0xEC00 ≤ pa ∧ pa < 0xF000 then .shared (pa % 0x100)
  else if 0xFF80 ≤ pa ∧ pa < 0x10000 then .dev (pa % 0x80)
  else if 0xFB80 ≤ pa ∧ pa < 0xFF80 ∧ rame = true then .ram (pa - 0xFB80)
  else if pa < 0xE000 then .sram (pa % 0x8000)
  else if 0xF000 ≤ pa ∧ pa < 0xFB80 then .ext
  else if 0x10000 ≤ pa ∧ pa < 0x80000 then .rom2 (pa % 0x80000 % rom2Len)
  else if 0x80000 ≤ pa then .ext
  else .unmapped

/-- The map puts entry `v` of the vector table at its place in ROM1, as R85 says of the default (R503). -/
def vectorInRom (p : Params) (v : Nat) : Prop :=
  ∀ (rame : Bool) (k : Nat), k < 4 → busTarget p rame (BitVec.ofNat 20 (4 * v + k)) = .rom1 (4 * v + k)

/-! ## Encodings that exist -/

/-- Whether a control-register code exists and takes operands of a size (R350). -/
def controlCodeOk (code : Nat) (sz : Size) : Bool :=
  match code with
  | 0 => sz == .word
  | 1 | 3 | 4 | 5 | 7 => sz == .byte
  | _ => false

/-- Whether R116 to R120, R131 and R350 admit the operation byte `op` after a specifier of this class and size: MULXU.W and
DIVXU.W (0xA8 to 0xAF, 0xB8 to 0xBF) only with an even register (R131). -/
def admitsOp (ea : EA) (op : Byte) : Bool :=
  let o := op.toNat
  let data := ea.cls != .imm
  if o < 0x04 then false
  else if o = 0x04 then ea.cls == .mem && ea.size == .byte
  else if o = 0x06 then ea.cls == .mem
  else if o < 0x08 then ea.cls == .mem && ea.size == .word
  else if o < 0x10 then data && o % 4 < 2
  else if o < 0x13 then ea.cls == .reg && ea.size == .byte
  else if o < 0x17 then data
  else if o = 0x17 then data && ea.size == .byte
  else if o < 0x20 then data
  else if 0x48 ≤ o ∧ o < 0x70 ∧ o / 8 % 2 = 1 then data || controlCodeOk (o % 8) ea.size
  else if 0x78 ≤ o ∧ o < 0x80 then data
  else if 0x88 ≤ o ∧ o < 0x90 then controlCodeOk (o % 8) ea.size
  else if 0x90 ≤ o ∧ o < 0x98 then ea.cls == .mem || (ea.cls == .reg && ea.size == .word)
  else if 0x98 ≤ o ∧ o < 0xA0 then data && controlCodeOk (o % 8) ea.size
  else if (0xA8 ≤ o ∧ o < 0xB0) ∨ (0xB8 ≤ o ∧ o < 0xC0) then ea.size == .byte || o % 2 == 0
  else if 0xC0 ≤ o then data
  else true

/-- The SUB8 opcodes of R410 to R426. -/
def subOpcodesLoads : List Nat :=
  [0xA9, 0xA5, 0xB5, 0xAD, 0xBD, 0xB9, 0xB1, 0xA2, 0xA6, 0xB6, 0xAE, 0xBE, 0xA0, 0xA4, 0xB4, 0xAC, 0xBC, 0x85, 0x95, 0x8D,
   0x9D, 0x99, 0x91, 0x86, 0x96, 0x8E, 0x84, 0x94, 0x8C, 0x3C, 0xAA, 0x8A, 0xA8, 0x98, 0xBA, 0x9A, 0x48, 0x68, 0x08, 0x28]

/-- The SUB8 opcodes of R430 to R440. -/
def subOpcodesArith : List Nat :=
  [0x69, 0x65, 0x75, 0x6D, 0x7D, 0x79, 0x71, 0xE9, 0xE5, 0xF5, 0xED, 0xFD, 0xF9, 0xF1, 0xC9, 0xC5, 0xD5, 0xCD, 0xDD, 0xD9,
   0xD1, 0xE0, 0xE4, 0xEC, 0xC0, 0xC4, 0xCC, 0x3A, 0xE6, 0xF6, 0xEE, 0xFE, 0x1A, 0xC6, 0xD6, 0xCE, 0xDE, 0xE8, 0xC8, 0xCA,
   0x88]

/-- The SUB8 opcodes of R441 to R448. -/
def subOpcodesLogic : List Nat :=
  [0x29, 0x25, 0x35, 0x2D, 0x3D, 0x39, 0x31, 0x09, 0x05, 0x15, 0x0D, 0x1D, 0x19, 0x11, 0x49, 0x45, 0x55, 0x4D, 0x5D, 0x59,
   0x51, 0x24, 0x2C, 0x0A, 0x06, 0x16, 0x0E, 0x1E, 0x4A, 0x46, 0x56, 0x4E, 0x5E, 0x2A, 0x26, 0x36, 0x2E, 0x3E, 0x6A, 0x66,
   0x76, 0x6E, 0x7E]

/-- The SUB8 opcodes of R450 to R464, R469 and R471 to R477. -/
def subOpcodesControl : List Nat :=
  [0x10, 0x30, 0x50, 0x70, 0x90, 0xB0, 0xD0, 0xF0, 0x80, 0x4C, 0x6C, 0x20, 0x60, 0x40, 0x00, 0xEA, 0x18, 0x38, 0x58, 0x78,
   0xB8, 0xD8, 0x12]

/-- Whether a byte is an admitted SUB8 opcode (R470): one of the lists, or of a bit family, whose low five bits are 03, 07,
13, 17, 0B, 0F, 1B or 1F (R465 to R468). -/
def isSubOpcode (op : Byte) : Bool :=
  [0x03, 0x07, 0x13, 0x17, 0x0B, 0x0F, 0x1B, 0x1F].contains (op.toNat % 0x20) ||
    (subOpcodesLoads ++ subOpcodesArith ++ subOpcodesLogic ++ subOpcodesControl).contains op.toNat

/-! ## Terms of single statements -/

/-- A load leaves the operand at its width in Rd (a byte load keeps Rd's bits 15:8), N and Z from it, V clear, C kept
(R190, R22, R179). -/
def loadsOperand (i : Instr) (ea : EA) (rd : Reg) (s : State) : Prop :=
  let m := 2 ^ ea.size.bits
  let v := s.fetched ea
  LoadsRegister i ea rd ((v.2.reg rd).toNat / m * m + v.1.toNat % m) (valueFlags m (v.1.toNat % m) false s.nzvc.c) s

/-- A store writes `v` at its width to the operand, N and Z from it, V clear, C kept. -/
def storesTo (i : Instr) (ea : EA) (v : Nat) (s : State) : Prop :=
  let m := 2 ^ ea.size.bits
  WritesOperand i ea (v % m) (valueFlags m (v % m) false s.nzvc.c) (resolveEA ea s).2 s

/-- How many registers below `n` a list names. -/
def listedBelow (l : Byte) (n : Nat) : Nat := ((List.range n).filter fun j => l.getLsbD j).length

/-- The dividend of DIVXU: Rd for a byte divisor, the pair Rd, Rd+1 for a word divisor. -/
def dividendOf (sz : Size) (rd : Reg) (s : State) : Nat :=
  match sz with
  | .byte => (s.reg rd).toNat
  | .word => (s.reg rd).toNat * 0x10000 + (s.reg (nextReg rd)).toNat

/-- The registers a multiply or divide of a width writes. -/
def pairOf (sz : Size) (rd : Reg) : List Reg :=
  match sz with
  | .byte => [rd]
  | .word => [rd, nextReg rd]

/-- One bit instruction that writes: bit `n` of the operand becomes `new` of what it was, every other bit is kept, Z says
that it was 0 and no other flag changes. -/
def changesBit (i : Instr) (ea : EA) (n : Nat) (new : Bool → Bool) (s : State) : Prop :=
  let a := (s.fetched ea).1.toNat % 2 ^ ea.size.bits
  ∃ r, r < 2 ^ ea.size.bits ∧
    (∀ k, k < ea.size.bits → r.testBit k = if k = n then new (a.testBit k) else a.testBit k) ∧
    WritesOperand i ea r { s.nzvc with z := !a.testBit n } (s.fetched ea).2 s

/-- One bit test: Z says that bit `n` is 0, nothing else changes. -/
def testsBit (i : Instr) (ea : EA) (n : Nat) (s : State) : Prop :=
  ReadsOperand i ea { s.nzvc with z := !(s.fetched ea).1.toNat.testBit n } s

/-- A displacement as a number: d8 is signed, d16 is used as it is (R124, R300). -/
def dispNumber : Disp → Int
  | .d8 d => d.toInt
  | .d16 d => d.toNat

/-- A conditional branch: PC moves by the displacement modulo 2^16 when the condition holds, nothing else changes. -/
def branchesIf (i : Instr) (b : Bool) (d : Disp) (s : State) : Prop :=
  ∃ t, exec i s = .next t ∧ t = { s with cpu.pc := t.cpu.pc } ∧
    (t.cpu.pc.toNat : Int) = if b = true then ((s.cpu.pc.toNat : Int) + dispNumber d) % 0x10000 else s.cpu.pc.toNat

/-- The target of a jump or call through a register (R321): the effective address itself. -/
def jumpOffset (t : JumpEA) (s : State) : Int :=
  match t with
  | .ind n => (s.reg n).toNat
  | .disp8 n d => (((s.reg n).toNat : Int) + d.toInt) % 0x10000
  | .disp16 n d => (((s.reg n).toNat : Int) + d.toNat) % 0x10000

/-- A call inside the code page: PC is pushed, PC becomes the target, nothing else changes. -/
def callsNear (i : Instr) (target : Int) (s : State) : Prop :=
  ∃ t, exec i s = .next t ∧ (t.cpu.pc.toNat : Int) = target ∧ Pushed s.cpu.pc s (t.setPc s.cpu.pc)

/-- A call across pages: PC is pushed, then CP as the word `0x00 : CP` below it, then CP and PC become the target. -/
def callsFar (i : Instr) (page : Nat) (target : Int) (s : State) : Prop :=
  ∃ u t, exec i s = .next t ∧ t.cpu.cp.toNat = page ∧ (t.cpu.pc.toNat : Int) = target ∧ Pushed s.cpu.pc s u ∧
    Pushed (BitVec.ofNat 16 s.cpu.cp.toNat) u ((t.setPc s.cpu.pc).setCp s.cpu.cp)

/-- An immediate as a number: imm8 is signed (R124, R328, R334). -/
def immNumber : Imm → Int
  | .i8 v => v.toInt
  | .i16 v => v.toNat

/-- The state `t` with R[7] moved back by `i`: what the deallocation of RTD and PRTD and the allocation of LINK did is taken
away again. -/
def undone (i : Int) (t : State) : State := t.setReg .r7 (t.reg .r7 - BitVec.ofInt 16 i)

/-- A return inside the code page: PC is popped and R[7] moved by `i`. -/
def returnsNear (i : Instr) (k : Int) (s : State) : Prop :=
  ∃ t, exec i s = .next t ∧ Popped t.cpu.pc s ((undone k t).setPc s.cpu.pc)

/-- A return across pages: the page word is popped first, its high byte ignored, then PC; R[7] is moved by `i`. -/
def returnsFar (i : Instr) (k : Int) (s : State) : Prop :=
  ∃ (w : Word) (u t : State), exec i s = .next t ∧ t.cpu.cp.toNat = w.toNat % 256 ∧ Popped w s u ∧
    Popped t.cpu.pc u (((undone k t).setPc s.cpu.pc).setCp s.cpu.cp)

/-- The five registers a control-register write can reach, after `v` is written to `cr`: SR keeps the bits that exist, CCR
is the low byte of SR (R26, R350). -/
def controlAfter (cr : CReg) (v : Nat) (s t : State) : Prop :=
  (t.cpu.sr = match cr with
    | .sr => BitVec.ofNat 16 v &&& 0x870F#16
    | .ccr => BitVec.ofNat 16 (s.cpu.sr.toNat / 256 * 256 + v % 16)
    | .br | .ep | .dp | .tp => s.cpu.sr) ∧
  (t.cpu.br = if cr = .br then BitVec.ofNat 8 v else s.cpu.br) ∧
  (t.cpu.ep = if cr = .ep then BitVec.ofNat 8 v else s.cpu.ep) ∧
  (t.cpu.dp = if cr = .dp then BitVec.ofNat 8 v else s.cpu.dp) ∧
  (t.cpu.tp = if cr = .tp then BitVec.ofNat 8 v else s.cpu.tp)

/-- What a read of a control register gives (R350). -/
def controlValue (cr : CReg) (s : State) : Nat :=
  match cr with
  | .sr => s.cpu.sr.toNat
  | .ccr => s.cpu.sr.toNat % 256
  | .br => s.cpu.br.toNat
  | .ep => s.cpu.ep.toNat
  | .dp => s.cpu.dp.toNat
  | .tp => s.cpu.tp.toNat

/-- `i` writes a number with the bits `f k` to the control register `cr` and suppresses the next check. -/
def writesControl (i : Instr) (ea : EA) (cr : CReg) (f : Nat → Bool) (s : State) : Prop :=
  ∃ t v, exec i s = .next t ∧ v < 2 ^ ea.size.bits ∧ (∀ k, k < ea.size.bits → v.testBit k = f k) ∧
    controlAfter cr v (s.fetched ea).2 t ∧ t.cpu.suppress = true ∧
    t = { (s.fetched ea).2 with cpu.sr := t.cpu.sr, cpu.br := t.cpu.br, cpu.ep := t.cpu.ep, cpu.dp := t.cpu.dp,
                                cpu.tp := t.cpu.tp, cpu.suppress := true } ∧
    ArraysKept s t ∧ MainSide s t ∧ SteppedRegs ea [] s t

/-- P as its bits: N, Z from a byte, every bit outside `written` kept. -/
def keepsP (written : List Nat) (s t : State) : Prop :=
  ∀ k, k < 8 → k ∉ written → t.sub.p.getLsbD k = s.sub.p.getLsbD k

/-- N and Z of P are those of `r` (R406). -/
def nzOf (r : Byte) (t : State) : Prop := t.pN = decide (128 ≤ r.toNat) ∧ t.pZ = decide (r.toNat = 0)

/-- What a sub-core read leaves alone: the main core and its devices, the sub core's registers and ROM, and every byte of
its RAM and of the shared RAM. -/
def SubReadFrame (s t : State) : Prop := SubSide s t ∧ t.sub = s.sub ∧ ∀ g, t.subArrayByte g = s.subArrayByte g

/-- A load of the sub core completes: `t` is the state after the operand is read, with the destination and P changed. -/
def subLoads (i : Instr) (m : SubMode) (dst : State → Byte) (s : State) : Prop :=
  ∃ t, exec i s = .next t ∧ dst t = (subOperand m s).1 ∧ nzOf (dst t) t ∧ keepsP [1, 7] s t ∧
    SameButSubRegs (subOperand m s).2 t ∧ t.sub.s = s.sub.s ∧ t.sub.spc = s.sub.spc

/-- `t` is `s` after the byte `v` is written at sub-core address `e`: no register changes, no other byte of an array does,
and private and shared RAM hold the byte. -/
def SubWritten (e : Word) (v : Byte) (s t : State) : Prop :=
  t = subWrite e v s ∧ SubSide s t ∧ SubArraysKeptBut e s t ∧ t.sub = { s.sub with ram := t.sub.ram } ∧
    (s.arraysOk = true → ∀ j, subTarget e = .ram j ∨ subTarget e = .shram j → t.subArrayByte (subTarget e) = some v)

/-- `t` is `s` after `SubPush(v)` (R404): the byte is written at S in the zero page, wherever that leads, S goes down by one
modulo 256, nothing else changes. -/
def SubPushed (v : Byte) (s t : State) : Prop :=
  t.sub.s.toNat = (s.sub.s.toNat + 255) % 256 ∧
    SubWritten (BitVec.ofNat 16 s.sub.s.toNat) v s { t with sub.s := s.sub.s }

/-- `t` is `s` after a `SubPull()` that gave `v` (R404): S goes up by one modulo 256 and the byte is read there. -/
def SubPulled (v : Byte) (s t : State) : Prop :=
  let r := subRead (BitVec.ofNat 16 ((s.sub.s.toNat + 1) % 256)) s
  v = r.1 ∧ t.sub.s.toNat = (s.sub.s.toNat + 1) % 256 ∧ { t with sub.s := s.sub.s } = r.2 ∧ SubReadFrame s r.2

/-- A read-modify-write instruction of the sub core (R405): the operand `v`, read once, is replaced by `r`, P changes in the
bits of `written`, nothing else changes. -/
def subModifies (i : Instr) (m : SubMode) (r : Nat) (written : List Nat) (s : State) : Prop :=
  ∃ t p, exec i s = .next t ∧ nzOf (BitVec.ofNat 8 r) t ∧ keepsP written s t ∧
    match (subPlace m s).1 with
    | .acc => t = { s with sub.a := BitVec.ofNat 8 r, sub.p := p }
    | .mem e =>
      t = { subWrite e (BitVec.ofNat 8 r) (subOperand m s).2 with sub.p := p } ∧
        SubWritten e (BitVec.ofNat 8 r) (subOperand m s).2 { t with sub.p := s.sub.p }
    | .imm _ => True

/-- A relative branch of the sub core: SPC moves by the signed byte when the condition holds, nothing else changes. -/
def subBranches (i : Instr) (b : Bool) (r : Byte) (s : State) : Prop :=
  ∃ t, exec i s = .next t ∧ t = { s with sub.spc := t.sub.spc } ∧
    (t.sub.spc.toNat : Int) = if b = true then ((s.sub.spc.toNat : Int) + r.toInt) % 0x10000 else s.sub.spc.toNat

end Sys2Proof.Machine
end

