-- ==== Sys2Proof/Certificates/Slice0/Obligations.lean ====
section
/-! DEFINITION. The statements for the provers. Each docstring names the rules of spec/ it formalises; the words the
statements use are defined in Safety.lean. -/

open Sys2Proof Sys2Proof.Machine

/-! ## Encoding -/

/-- Words written out in the examples of spec/ decode to the instructions they stand for (R190, R193, R226, R284, R277,
R316, R321, R353, R356, R330 of MAIN16; R413, R416, R456, R465 of SUB8). -/
def Obligations.KnownWordsDecode : Prop :=
  decode [0xD9#8, 0x82#8] = .ok (.movGLoad (.ind .word .r1) .r2) [] ∧
  decode [0xEE#8, 0x10#8, 0x07#8, 0x12#8, 0x34#8] = .ok (.movGImm16 0x1234#16 (.disp8 .word .r6 0x10#8)) [] ∧
  decode [0x04#8, 0xFE#8, 0x2C#8] = .ok (.adds (.imm8 0xFE#8) .r4) [] ∧
  decode [0xAB#8, 0x5A#8] = .ok (.bclrR .r2 (.reg .word .r3)) [] ∧
  decode [0xA8#8, 0x1F#8] = .ok (.rotxr (.reg .word .r0)) [] ∧
  decode [0x3F#8, 0xFF#8, 0x00#8] = .ok (.ble (.d16 0xFF00#16)) [] ∧
  decode [0x11#8, 0xE1#8, 0x04#8] = .ok (.jmpInd (.disp8 .r1 0x04#8)) [] ∧
  decode [0x0C#8, 0xF8#8, 0xFF#8, 0x58#8] = .ok (.andc (.imm16 0xF8FF#16) .sr) [] ∧
  decode [0x08#8, 0x13#8] = .ok (.trapa 3#4) [] ∧
  decode [0x01#8, 0xB9#8, 0xFD#8] = .ok (.scbF .r1 0xFD#8) [] ∧
  decodeSub [0x8D#8, 0x00#8, 0x02#8] = .ok (.s8Sta (.abs 0x0200#16)) [] ∧
  decodeSub [0x3C#8, 0x01#8, 0xF2#8] = .ok (.s8Ldm 0x01#8 0xF2#8) [] ∧
  decodeSub [0xD0#8, 0xFE#8] = .ok (.s8Bne 0xFE#8) [] ∧
  decodeSub [0xE7#8, 0xE1#8, 0xFD#8] = .ok (.s8Bbs 7#3 (.zp 0xE1#8) 0xFD#8) []

/-- Decoding what the encoder writes gives the instruction back, whatever bytes follow: every well-formed MAIN16 instruction
with every operand at every value (R110 to R125). -/
def Obligations.MainDecodeEncode : Prop :=
  ∀ (i : Instr) (rest : List Byte), i.wf = true → i.isSub8 = false → i.isSpecifier = false →
    decode (encode i ++ rest) = .ok i rest

/-- The same for SUB8 (R405 to R477). -/
def Obligations.SubDecodeEncode : Prop :=
  ∀ (i : Instr) (rest : List Byte), i.wf = true → i.isSub8 = true → decodeSub (encode i ++ rest) = .ok i rest

/-- What does not exist decodes to no instruction: the reserved first and second bytes of R130 (and `PJMP @R7`,
`PJSR @R7` of R131), every operation byte that R116 to R120 and R350 do not admit after a specifier of its class and size
(R131; MULXU.W and DIVXU.W with an odd register among them), every SUB8 opcode
outside R410 to R477 (R470). What exists is not reserved. Whatever a decoder answers is a well-formed instruction of its own
instruction set, and the bytes it read are that instruction's encoding: decoding has no second spelling. -/
def Obligations.DecodersAdmitWhatExists : Prop :=
  ∀ rest : List Byte,
    (∀ b0 ∈ [0x09#8, 0x0B#8, 0x16#8, 0x1B#8], decode (b0 :: rest) = .reserved rest) ∧
    (∀ b1 : Byte, b1 ∉ [0x14#8, 0x19#8, 0x1C#8] → (b1.toNat < 0xC0 ∨ b1 = 0xC7#8 ∨ b1 = 0xCF#8) →
      decode (0x11#8 :: b1 :: rest) = .reserved rest) ∧
    (∀ b0 ∈ [0x01#8, 0x06#8, 0x07#8], ∀ b1 : Byte, (b1.toNat < 0xB8 ∨ 0xBF < b1.toNat) →
      decode (b0 :: b1 :: rest) = .reserved rest) ∧
    (∀ b1 : Byte, (b1.toNat < 0x10 ∨ 0x1F < b1.toNat) → decode (0x08#8 :: b1 :: rest) = .reserved rest) ∧
    (∀ (ea : EA) (op : Byte),
      (admitsOp ea op = false → decode (ea.encode ++ op :: rest) = .reservedOp ea.toInstr rest) ∧
      (admitsOp ea op = true → ∀ i r, decode (ea.encode ++ op :: rest) ≠ .reservedOp i r)) ∧
    (∀ op : Byte,
      (isSubOpcode op = false → decodeSub (op :: rest) = .reserved rest) ∧
      (isSubOpcode op = true → ∀ r, decodeSub (op :: rest) ≠ .reserved r)) ∧
    (∀ (bs : List Byte) (i : Instr),
      (decode bs = .ok i rest → i.wf = true ∧ i.isSub8 = false ∧ i.isSpecifier = false ∧ bs = encode i ++ rest) ∧
      (decode bs = .reservedOp i rest →
        ∃ (ea : EA) (op : Byte), i = ea.toInstr ∧ admitsOp ea op = false ∧ bs = ea.encode ++ op :: rest) ∧
      (decodeSub bs = .ok i rest → i.wf = true ∧ i.isSub8 = true ∧ bs = encode i ++ rest) ∧
      decodeSub bs ≠ .reservedOp i rest)

/-! ## The step -/

/-- A step runs the decoded instruction, on both cores. Main part of a quantum (R150, R151): with the host's actions taken
and the check made, the instruction read at CP:PC is executed unless the core sleeps, Trace is requested exactly where SR.T is
1 after it (R542), CPI is added to `cycles` (also while the core sleeps), the PCM engine and then the timers catch up, and the
sub core has the next turn exactly where R591's condition holds, on mk2 only (R590). One turn of the sub core (R591, R403):
with time passed and the check made, the instruction read at SPC is executed, SUB_CPI is added to `sub_cycles`, and the
condition decides again. A refusal of a MAIN16 instruction (R201, R202) is the step's. -/
def Obligations.StepRunsDecoded : Prop :=
  ∀ (s s1 : State) (i : Instr) (rest : List Byte),
    (s.model.phase = .main →
      let b := boundaryCheck (takeHost s.model.hostIn s)
      (b.cpu.sleep = true → ∃ u, step s = .next u ∧ QuantumEnd b u) ∧
      (b.cpu.sleep = false →
        (∀ t, executeInstruction b = .next t → ∃ u, step s = .next u ∧ QuantumEnd t u) ∧
        (∀ r, executeInstruction b = .refused r → step s = .refused r) ∧
        (fetchMain maxLength [] b = (.ok i rest, s1) →
          (∀ t, exec i s1 = .next t →
            executeInstruction b = .next (traced t) ∧ ∃ u, step s = .next u ∧ QuantumEnd (traced t) u) ∧
          (∀ r, exec i s1 = .refused r → step s = .refused r)))) ∧
    (s.model.phase = .sub →
      let b := subInterruptCheck (subDevUpdate s)
      step s = subInstructionPart b ∧
      (fetchSub (maxLength - 1) [(subFetch8 b).1] (subFetch8 b).2 = (.ok i rest, s1) →
        ∀ t, exec i s1 = .next t → ∃ u, step s = .next u ∧ SubTurnEnd t u))

/-- An instruction whose encoding stands in plain memory at CP:PC is the one ExecuteInstruction runs, with PC behind its last
byte and nothing else changed before it, and the trace test after it (R23, R24, R110, R151, R152); the same for SUB8 at SPC,
with the end of the sub-core step after it (R403). -/
def Obligations.EncodedInstructionRuns : Prop :=
  ∀ (s : State) (i : Instr), i.wf = true → i.isSpecifier = false →
    (i.isSub8 = false →
      (∀ k, (h : k < (encode i).length) →
        s.plainByte (busAddr s.cpu.cp (s.cpu.pc + BitVec.ofNat 16 k)) = true ∧
        peek8 s (busAddr s.cpu.cp (s.cpu.pc + BitVec.ofNat 16 k)) = (encode i)[k]) →
      let s1 := s.setPc (s.cpu.pc + BitVec.ofNat 16 (encode i).length)
      (∀ t, exec i s1 = .next t → executeInstruction s = .next (traced t)) ∧
      (∀ r, exec i s1 = .refused r → executeInstruction s = .refused r)) ∧
    (i.isSub8 = true →
      (∀ k, (h : k < (encode i).length) →
        ((∃ j, subTarget (s.sub.spc + BitVec.ofNat 16 k) = .ram j) ∨
          (∃ j, subTarget (s.sub.spc + BitVec.ofNat 16 k) = .rom j)) ∧
        subPeek s (s.sub.spc + BitVec.ofNat 16 k) = (encode i)[k]) →
      ∀ t, exec i (s.setSpc (s.sub.spc + BitVec.ofNat 16 (encode i).length)) = .next t →
        ∃ u, subInstructionPart s = .next u ∧ SubTurnEnd t u)

/-- What a reserved encoding does (R132, R151, R470). MAIN16: InvalidInstruction is requested, the bytes stay consumed, the
specifier's side effect is kept, nothing else changes but what the trace test adds. SUB8: the step is refused by the
opcode. -/
def Obligations.ReservedEncodingStep : Prop :=
  (∀ (s s1 : State) (rest : List Byte), fetchMain maxLength [] s = (.reserved rest, s1) →
    executeInstruction s =
      .next { s1 with cpu.excSlot :=
        if s1.srT = true then slotAfter .trace (slotAfter .invalidInstruction s1.cpu.excSlot)
        else slotAfter .invalidInstruction s1.cpu.excSlot }) ∧
  (∀ (s s1 : State) (ea : EA) (rest : List Byte), fetchMain maxLength [] s = (.reservedOp ea.toInstr rest, s1) →
    ∃ t, executeInstruction s = .next t ∧
      SteppedRegs ea [] s1 t ∧
      t = { s1 with cpu.regs := t.cpu.regs, cpu.excSlot := t.cpu.excSlot } ∧
      t.cpu.excSlot = (if s1.srT = true then slotAfter .trace (slotAfter .invalidInstruction s1.cpu.excSlot)
        else slotAfter .invalidInstruction s1.cpu.excSlot)) ∧
  (∀ (s s1 : State) (rest : List Byte), s.model.phase = .sub →
    fetchSub (maxLength - 1) [(subFetch8 (subInterruptCheck (subDevUpdate s))).1]
      (subFetch8 (subInterruptCheck (subDevUpdate s))).2 = (.reserved rest, s1) →
    step s = .refused (.reservedSubOpcode (subFetch8 (subInterruptCheck (subDevUpdate s))).1))

/-! ## Specifiers, operands, memory -/

/-- What resolving a specifier does (R160 to R169, R71): the register it steps and by how much, the operand it names and the
20-bit address of a memory operand. Run alone it completes with no other effect. -/
def Obligations.SpecifierEffects : Prop :=
  ∀ (sz : Size) (n : Reg) (s : State),
    (s.pageOf n = if n ∈ [Reg.r0, .r1, .r2, .r3] then s.cpu.dp else if n ∈ [Reg.r4, .r5] then s.cpu.ep else s.cpu.tp) ∧
    (exec (.eaReg sz n) s = .next s ∧ (resolveEA (.reg sz n) s).1 = .reg n) ∧
    (exec (.eaInd sz n) s = .next s ∧ ∃ pa, s.operandAddr (.ind sz n) = some pa ∧
      pa.toNat = (s.pageOf n).toNat % 16 * 0x10000 + (s.reg n).toNat) ∧
    (∀ d : Byte, exec (.eaDisp8 sz n d) s = .next s ∧ ∃ pa, s.operandAddr (.disp8 sz n d) = some pa ∧
      (pa.toNat : Int) = ((s.pageOf n).toNat % 16 * 0x10000 : Nat) + (((s.reg n).toNat : Int) + d.toInt) % 0x10000) ∧
    (∀ d : Word, exec (.eaDisp16 sz n d) s = .next s ∧ ∃ pa, s.operandAddr (.disp16 sz n d) = some pa ∧
      pa.toNat = (s.pageOf n).toNat % 16 * 0x10000 + ((s.reg n).toNat + d.toNat) % 0x10000) ∧
    (∀ a : Byte, exec (.eaAbs8 sz a) s = .next s ∧ ∃ pa, s.operandAddr (.abs8 sz a) = some pa ∧
      pa.toNat = s.cpu.br.toNat * 0x100 + a.toNat) ∧
    (∀ a : Word, exec (.eaAbs16 sz a) s = .next s ∧ ∃ pa, s.operandAddr (.abs16 sz a) = some pa ∧
      pa.toNat = s.cpu.dp.toNat % 16 * 0x10000 + a.toNat) ∧
    (∀ v : Byte, exec (.eaImm8 v) s = .next s ∧ ∃ w, (resolveEA (.imm8 v) s).1 = .imm w ∧ w.toNat = v.toNat) ∧
    (∀ v : Word, exec (.eaImm16 v) s = .next s ∧ (resolveEA (.imm16 v) s).1 = .imm v) ∧
    (∃ t pa, exec (.eaPreDec sz n) s = .next t ∧ SameButRegs s t ∧ OtherRegs n s t ∧
      (t.reg n).toNat = ((s.reg n).toNat + 0x10000 - (if sz = .word ∨ n = .r7 then 2 else 1)) % 0x10000 ∧
      s.operandAddr (.preDec sz n) = some pa ∧ pa.toNat = (s.pageOf n).toNat % 16 * 0x10000 + (t.reg n).toNat) ∧
    (∃ t pa, exec (.eaPostInc sz n) s = .next t ∧ SameButRegs s t ∧ OtherRegs n s t ∧
      (t.reg n).toNat = ((s.reg n).toNat + (if sz = .word ∨ n = .r7 then 2 else 1)) % 0x10000 ∧
      s.operandAddr (.postInc sz n) = some pa ∧ pa.toNat = (s.pageOf n).toNat % 16 * 0x10000 + (s.reg n).toNat)

/-- What reading an operand gives (R22, R165, R73 to R75): the low bits of a register, an immediate, or the big-endian bytes
of a memory operand, a word at the even address below with AddressError requested where the address is odd. Reading plain
memory changes nothing but the slot. -/
def Obligations.OperandRead : Prop :=
  ∀ (ea : EA) (s : State),
    match (resolveEA ea s).1 with
    | .reg n =>
      (s.fetched ea).1.toNat = (s.reg n).toNat % 2 ^ ea.size.bits ∧ (s.fetched ea).2 = s
    | .imm v => s.fetched ea = (v, s)
    | .mem pa =>
      s.plainAt ea.size pa = true →
        (s.fetched ea).1.toNat = s.valueAt ea.size pa ∧
        (s.fetched ea).2 =
          { (resolveEA ea s).2 with cpu.excSlot := slotAfterAccess ea.size (some pa) s.cpu.excSlot }

/-- Words in memory (R73, R75, R77): a word written to RAM reads back at the same address, its high byte stands at the even
address and its low byte after it, an odd address names the same two bytes and requests AddressError, and no other byte
changes. The bus is total (R72, R82): an unmapped read gives FILL, an unmapped write and a write to ROM change nothing, and
the reads that R82 calls idempotent change nothing; an access of RAM or SRAM is of that byte alone; an access of a PCM register
is that of PcmPrimitivesAndInterrupt (R640); an access of the shared window is by the rows of R620: the shared bytes (R622),
the access flags, mailbox, semaphore, port latch and `ramdir`, and FILL; an external address goes to the host (R84). Under the
default `MEMMAP` every address leads where the table of R83
says, and no two addresses of RAM and SRAM name one byte. -/
def Obligations.BusAccess : Prop :=
  ∀ (s : State) (pa : BusAddr) (v : Word) (b : Byte),
    (s.arraysOk = true → s.ramAt .word pa = true →
    (memRead16 pa (memWrite16 pa v s)).1 = v ∧
    (peek8 (memWrite16 pa v s) (evenBelow pa)).toNat = v.toNat / 256 ∧
    (peek8 (memWrite16 pa v s) (evenBelow pa + 1#20)).toNat = v.toNat % 256 ∧
    (evenBelow pa).toNat = pa.toNat / 2 * 2 ∧
    (memWrite16 pa v s).cpu.excSlot =
      (if pa.toNat % 2 = 1 then slotAfter .addressError s.cpu.excSlot else s.cpu.excSlot) ∧
    ArraysKeptBut .word pa s (memWrite16 pa v s) ∧ (memWrite16 pa v s).arraysOk = true) ∧
    (s.target pa = .unmapped → read8 pa s = (s.params.fill, s) ∧ write8 pa b s = s) ∧
    (∀ i, s.target pa = .rom1 i → read8 pa s = (s.mem.rom1.read i, s) ∧ write8 pa b s = s) ∧
    (∀ i, s.target pa = .rom2 i → read8 pa s = (s.mem.rom2.read i, s) ∧ write8 pa b s = s) ∧
    (∀ i, s.target pa = .ram i →
      read8 pa s = (s.mem.ram.read i, s) ∧ write8 pa b s = { s with mem.ram := s.mem.ram.write i b }) ∧
    (∀ i, s.target pa = .sram i →
      read8 pa s = (s.mem.sram.read i, s) ∧ write8 pa b s = { s with mem.sram := s.mem.sram.write i b }) ∧
    (∀ r, s.target pa = .pcm r → read8 pa s = pcmRead r s ∧ write8 pa b s = pcmWrite r b s) ∧
    (∀ i, s.target pa = .shared i →
      let r := read8 pa s
      let t := write8 pa b s
      r = windowRead i s ∧ t = windowWrite i b s ∧
      (if i < 0xC0 then r = mainShRead i s ∧ t = mainShWrite i b s
       else if i < 0xD8 then
         r.2 = s ∧ (∀ k, k < 8 → r.1.getLsbD k = s.link.flag (8 * (i - 0xC0) + k)) ∧ t = s
       else if i = 0xE0 then
         r = (s.link.mboxS2m, s) ∧
         t = { s with link := { s.link with mboxM2s := b, intPending := t.link.intPending } } ∧
         ∀ k, k < 8 → t.link.intPending.getLsbD k = (s.link.intPending.getLsbD k || decide (k = 6))
       else if i = 0xE1 then r = (s.link.semaphore, s) ∧ t = { s with link.semaphore := b }
       else if i = 0xE2 then r = (s.link.latchS2m, s) ∧ t = { s with link.latchM2s := b }
       else if i = 0xE3 then r = (s.link.ramdir, s) ∧ t = s
       else r = (s.params.fill, s) ∧ t = s)) ∧
    (s.target pa = .ext →
      (read8 pa s).2 = { s with model.draws := s.model.draws + 1 } ∧
      write8 pa b s = { s with model.hostOut := .extWrite pa b :: s.model.hostOut }) ∧
    (∀ i, s.target pa = .dev i → devReg i ≠ .ext → devReg i ≠ .tmrTcsr → (∀ k, devReg i ≠ .frt k .tcsr) →
      (read8 pa s).2 = s) ∧
    (s.params.memMap = defaultMemMap →
      s.target pa = r83Target s.params.variant (s.dev.ramcr.getLsbD 7) s.params.rom2Len pa.toNat ∧
      ∀ pb, s.plainRam pa = true → s.target pb = s.target pa → pb = pa)

/-! ## Data transfer -/

/-- The loads (R190, R194, R195, R196, R198): MOV:G of every operand, and the short forms, which load what the general form
of their operand loads. -/
def Obligations.Loads : Prop :=
  ∀ (s : State) (rd : Reg),
    (∀ ea, loadsOperand (.movGLoad ea rd) ea rd s) ∧
    (∀ i, loadsOperand (.movE i rd) (.imm8 i) rd s) ∧
    (∀ i, loadsOperand (.movI i rd) (.imm16 i) rd s) ∧
    (∀ sz a, loadsOperand (.movL sz a rd) (.abs8 sz a) rd s) ∧
    (∀ sz d, loadsOperand (.movFLoad sz d rd) (.disp8 sz .r6 d) rd s)

/-- The stores (R191, R192, R193, R197, R199). The register is read after the specifier's side effect (R171); the 8-bit
immediate is sign-extended to a word operand. -/
def Obligations.Stores : Prop :=
  ∀ (s : State) (ea : EA),
    (ea.cls = .mem → ∀ rs, storesTo (.movGStore rs ea) ea ((resolveEA ea s).2.reg rs).toNat s) ∧
    (ea.cls = .mem → ∀ i : Byte, storesTo (.movGImm8 i ea) ea (i.toInt % 0x10000).toNat s) ∧
    (ea.cls = .mem → ea.size = .word → ∀ i : Word, storesTo (.movGImm16 i ea) ea i.toNat s) ∧
    (∀ sz rs a, storesTo (.movS sz rs a) (.abs8 sz a) (s.reg rs).toNat s) ∧
    (∀ sz rs d, storesTo (.movFStore sz rs d) (.disp8 sz .r6 d) (s.reg rs).toNat s)

/-- XCH, SWAP, EXTS, EXTU (R203, R204, R244, R245): the registers they leave and the flags; no other register, no other
flag and no memory changes. -/
def Obligations.ExchangeSwapExtend : Prop :=
  ∀ (s : State) (d r : Reg),
    (∃ t, exec (.xch r (.reg .word d)) s = .next t ∧ SameButRegs s t ∧ t.reg d = s.reg r ∧ t.reg r = s.reg d ∧
      ∀ m, m ≠ d → m ≠ r → t.reg m = s.reg m) ∧
    (∃ t, exec (.swap (.reg .byte d)) s = .next t ∧ SameButRegsSr s t ∧ OtherRegs d s t ∧ SameSrSystem s t ∧
      (t.reg d).toNat = (s.reg d).toNat % 256 * 256 + (s.reg d).toNat / 256 ∧
      t.nzvc = valueFlags 0x10000 (t.reg d).toNat false s.nzvc.c) ∧
    (∃ t, exec (.exts (.reg .byte d)) s = .next t ∧ SameButRegsSr s t ∧ OtherRegs d s t ∧ SameSrSystem s t ∧
      (t.reg d).toInt = Int.bmod (s.reg d).toNat 256 ∧ t.nzvc = valueFlags 0x10000 (t.reg d).toNat false false) ∧
    (∃ t, exec (.extu (.reg .byte d)) s = .next t ∧ SameButRegsSr s t ∧ OtherRegs d s t ∧ SameSrSystem s t ∧
      (t.reg d).toNat = (s.reg d).toNat % 256 ∧
      t.nzvc = { n := false, z := decide ((s.reg d).toNat % 256 = 0), v := false, c := false })

/-- STM and LDM (R201, R202) complete for every list without R[7], whatever R[7] is and wherever the stack lies: STM pushes
the listed registers, the highest number first, LDM pops them, the lowest first, each as a push or pop of R170 does (with
an odd R[7] at the even address below and with AddressError requested); STM changes R[7] and memory alone, LDM the listed
registers and R[7]; both move R[7] by two for each. With the stack in RAM, STM leaves the lowest register at the lowest
address and stores nowhere else, and LDM with the same list brings every listed register back, whatever the registers held
in between: it is the inverse of STM. A list that names R[7] is refused ("a model refuses it"). -/
def Obligations.MultiRegisterTransfers : Prop :=
  ∀ (l : Byte) (s : State),
    let n := listedBelow l 7
    let slot (u : State) : Option ExcKind :=
      if (s.reg .r7).toNat % 2 = 1 ∧ 0 < n then slotAfter .addressError u.cpu.excSlot else u.cpu.excSlot
    (l.getLsbD 7 = true → exec (.ldm l) s = .refused .listNamesSp ∧ exec (.stm l) s = .refused .listNamesSp) ∧
    (l.getLsbD 7 = false →
    (∃ t, exec (.stm l) s = .next t ∧ PushedAll (listedRegs l).reverse s t ∧
      SameControl s t ∧ MainSide s t ∧ t.cpu.sr = s.cpu.sr ∧ OtherRegs .r7 s t ∧
      t.reg .r7 = s.reg .r7 - BitVec.ofNat 16 (2 * n) ∧ t.cpu.excSlot = slot s ∧
      (s.arraysOk = true → s.stackRam (t.reg .r7) n = true →
        (∀ r : Reg, r ≠ .r7 → l.getLsbD r.toNat = true →
          t.valueAt .word (busAddr s.cpu.tp (t.reg .r7 + BitVec.ofNat 16 (2 * listedBelow l r.toNat))) =
            (s.reg r).toNat) ∧
        (∀ g, g ∉ (s.stackBytes (t.reg .r7) n).map s.target → t.arrayByte g = s.arrayByte g) ∧
        SameOutside s t ∧
        ∀ rs : Regs, rs.r7 = t.reg .r7 →
          ∃ u, exec (.ldm l) { t with cpu.regs := rs } = .next u ∧ u.reg .r7 = s.reg .r7 ∧
            (∀ r : Reg, r ≠ .r7 → u.reg r = if l.getLsbD r.toNat = true then s.reg r else rs.get r) ∧
            u = { t with cpu.regs := u.cpu.regs })) ∧
    (∃ t, exec (.ldm l) s = .next t ∧ PoppedAll (listedRegs l) s t ∧
      SameControl s t ∧ MainSide s t ∧ t.cpu.sr = s.cpu.sr ∧ ArraysKept s t ∧
      (∀ r : Reg, r ≠ .r7 → l.getLsbD r.toNat = false → t.reg r = s.reg r) ∧
      t.reg .r7 = s.reg .r7 + BitVec.ofNat 16 (2 * n) ∧ t.cpu.excSlot = slot s ∧
      ((s.stackBytes (s.reg .r7) n).all s.plainByte = true →
        (∀ r : Reg, r ≠ .r7 → l.getLsbD r.toNat = true →
          (t.reg r).toNat =
            s.valueAt .word (busAddr s.cpu.tp (s.reg .r7 + BitVec.ofNat 16 (2 * listedBelow l r.toNat)))) ∧
        t = { s with cpu.regs := t.cpu.regs, cpu.excSlot := t.cpu.excSlot })))

/-! ## Arithmetic -/

/-- ADD:G, ADDX, SUB, SUBX (R220, R224, R228, R230, R175, R176): the sum or difference at the operand's width in Rd, whose
bits above the width are kept, and the four flags of the exact arithmetic; C is read before it is rewritten. -/
def Obligations.AddSubtractIntoRegister : Prop :=
  ∀ (ea : EA) (rd : Reg) (s : State),
    let m := 2 ^ ea.size.bits
    let v := s.fetched ea
    let d := (v.2.reg rd).toNat
    let a := d % m
    let b := v.1.toNat % m
    let c := s.nzvc.c.toNat
    LoadsRegister (.addG ea rd) ea rd (d / m * m + sumOf m a b 0) (sumFlags m a b 0) s ∧
    LoadsRegister (.addx ea rd) ea rd (d / m * m + sumOf m a b c) (sumFlags m a b c) s ∧
    LoadsRegister (.sub ea rd) ea rd (d / m * m + diffOf m a b 0) (diffFlags m a b 0) s ∧
    LoadsRegister (.subx ea rd) ea rd (d / m * m + diffOf m a b c) (diffFlags m a b c) s

/-- ADD:Q and NEG (R222, R247): the operand plus the W-bit constant, and zero minus the operand, written back; the flags are
those of that addition and subtraction. -/
def Obligations.QuickAddAndNegate : Prop :=
  ∀ (ea : EA) (s : State), ea.regOrMem = true →
    let m := 2 ^ ea.size.bits
    let v := s.fetched ea
    let a := v.1.toNat % m
    WritesOperand (.addQ .plus1 ea) ea (sumOf m a 1 0) (sumFlags m a 1 0) v.2 s ∧
    WritesOperand (.addQ .plus2 ea) ea (sumOf m a 2 0) (sumFlags m a 2 0) v.2 s ∧
    WritesOperand (.addQ .minus1 ea) ea (sumOf m a (m - 1) 0) (sumFlags m a (m - 1) 0) v.2 s ∧
    WritesOperand (.addQ .minus2 ea) ea (sumOf m a (m - 2) 0) (sumFlags m a (m - 2) 0) v.2 s ∧
    WritesOperand (.neg ea) ea (diffOf m 0 a 0) (diffFlags m 0 a 0) v.2 s

/-- ADDS and SUBS (R226, R229): the whole register plus or minus the operand, a byte operand read as signed, modulo 2^16; no
flag changes. -/
def Obligations.AddressArithmetic : Prop :=
  ∀ (ea : EA) (rd : Reg) (s : State),
    let v := s.fetched ea
    let e : Int := match ea.size with
      | .byte => Int.bmod v.1.toNat 256
      | .word => v.1.toNat
    let d : Int := (v.2.reg rd).toNat
    LoadsRegister (.adds ea rd) ea rd ((d + e) % 0x10000).toNat s.nzvc s ∧
    LoadsRegister (.subs ea rd) ea rd ((d - e) % 0x10000).toNat s.nzvc s

/-- The compares (R232 to R236): the flags of the subtraction, and nothing else. -/
def Obligations.Compares : Prop :=
  ∀ (ea : EA) (s : State),
    let m := 2 ^ ea.size.bits
    let v := s.fetched ea
    (∀ rd, ReadsOperand (.cmpG ea rd) ea (diffFlags m ((v.2.reg rd).toNat % m) (v.1.toNat % m) 0) s) ∧
    (ea.cls = .mem → ea.size = .byte → ∀ i : Byte,
      ReadsOperand (.cmpGImm8 i ea) ea (diffFlags 0x100 (v.1.toNat % 0x100) i.toNat 0) s) ∧
    (ea.cls = .mem → ea.size = .word → ∀ i : Word,
      ReadsOperand (.cmpGImm16 i ea) ea (diffFlags 0x10000 v.1.toNat i.toNat 0) s) ∧
    (∀ (i : Byte) (rd : Reg),
      ReadsOperand (.cmpE i rd) (.imm8 i) (diffFlags 0x100 ((s.reg rd).toNat % 0x100) i.toNat 0) s) ∧
    (∀ (i : Word) (rd : Reg),
      ReadsOperand (.cmpI i rd) (.imm16 i) (diffFlags 0x10000 (s.reg rd).toNat i.toNat 0) s)

/-- MULXU (R240): the unsigned product, of bytes into the whole of Rd, of words into the pair Rd, Rd+1 with an even Rd; N is
its top bit, Z says that it is zero, V and C are cleared. A word product with an odd Rd is reserved (R131): InvalidInstruction
is requested, the operand is not read and nothing changes but the register the specifier stepped, whose step is kept (R132;
DEDUCED, notes/assumptions/16.md). -/
def Obligations.Multiply : Prop :=
  ∀ (ea : EA) (rd : Reg) (s : State),
    let v := s.fetched ea
    (ea.size = .byte →
      let p := (v.2.reg rd).toNat % 256 * (v.1.toNat % 256)
      LoadsRegister (.mulxu ea rd) ea rd p (valueFlags 0x10000 p false false) s) ∧
    (ea.size = .word → rd.toNat % 2 = 0 →
      let k := match s.params.multiplicand with
        | .rdNext => v.2.reg (nextReg rd)
        | .rd => v.2.reg rd
      let p := k.toNat * v.1.toNat
      ∃ t, exec (.mulxu ea rd) s = .next t ∧ (t.reg rd).toNat * 0x10000 + (t.reg (nextReg rd)).toNat = p ∧
        t.nzvc = valueFlags 0x100000000 p false false ∧ SameButRegsSr v.2 t ∧
        RegisterFrame ea [rd, nextReg rd] s t) ∧
    (ea.size = .word → rd.toNat % 2 = 1 → TurnedAway (.mulxu ea rd) ea s)

/-- DIVXU (R242) with a divisor that is not zero and a quotient that fits: quotient and remainder are those of the unsigned
division, in the high and the low byte of Rd or in the pair; with a quotient that does not fit V is set, C cleared and no
register of the pair changes. A word division with an odd Rd is reserved (R131): InvalidInstruction is requested, the operand
is not read and nothing changes but the register the specifier stepped, whose step is kept (R132; DEDUCED,
notes/assumptions/16.md). -/
def Obligations.Divide : Prop :=
  ∀ (ea : EA) (rd : Reg) (s : State),
    (ea.size = .word → rd.toNat % 2 = 1 → TurnedAway (.divxu ea rd) ea s) ∧
    ((ea.size = .word → rd.toNat % 2 = 0) →
    let m := 2 ^ ea.size.bits
    let v := s.fetched ea
    let n := dividendOf ea.size rd v.2
    let d := v.1.toNat
    (d ≠ 0 → n < d * m →
      ∃ t q r, exec (.divxu ea rd) s = .next t ∧ n = d * q + r ∧ r < d ∧ q < m ∧
        (match ea.size with
          | .byte => (t.reg rd).toNat = r * 256 + q
          | .word => (t.reg rd).toNat = r ∧ (t.reg (nextReg rd)).toNat = q) ∧
        t.nzvc = valueFlags m q false false ∧ SameButRegsSr v.2 t ∧ RegisterFrame ea (pairOf ea.size rd) s t) ∧
    (d ≠ 0 → d * m ≤ n →
      ∃ t, exec (.divxu ea rd) s = .next t ∧ t.nzvc.v = true ∧ t.nzvc.c = false ∧ t.cpu.regs = v.2.cpu.regs ∧
        SameControl s t ∧ MainSide s t ∧ SameSrSystem s t ∧ ArraysKept s t ∧ t.dev = v.2.dev ∧ t.link = v.2.link ∧
        t.pcm = v.2.pcm ∧ t.cpu.intPending = v.2.cpu.intPending ∧ t.cpu.excSlot = v.2.cpu.excSlot))

/-- CLR, TST, TAS (R246, R248, R250): CLR writes 0 without reading, TST only reads, TAS writes the byte with bit 7 set and
leaves the flags of the byte before. -/
def Obligations.ClearTestSet : Prop :=
  ∀ (ea : EA) (s : State), ea.regOrMem = true →
    let m := 2 ^ ea.size.bits
    let v := s.fetched ea
    let a := v.1.toNat % m
    WritesOperand (.clr ea) ea 0 { n := false, z := true, v := false, c := false } (resolveEA ea s).2 s ∧
    ReadsOperand (.tst ea) ea (valueFlags m a false false) s ∧
    (ea.size = .byte → WritesOperand (.tas ea) ea (a % 128 + 128) (valueFlags 256 a false false) v.2 s)

/-! ## Logic, shifts, bits -/

/-- AND, OR, XOR into a register and NOT of an operand (R260 to R263), bit by bit; N and Z from the result, V cleared, C
kept. -/
def Obligations.Logic : Prop :=
  ∀ (ea : EA) (s : State),
    let m := 2 ^ ea.size.bits
    let v := s.fetched ea
    let b := v.1.toNat
    (∀ rd : Reg,
      let d := (v.2.reg rd).toNat
      (∃ r, r < m ∧ (∀ k, k < ea.size.bits → r.testBit k = (d.testBit k && b.testBit k)) ∧
        LoadsRegister (.and ea rd) ea rd (d / m * m + r) (valueFlags m r false s.nzvc.c) s) ∧
      (∃ r, r < m ∧ (∀ k, k < ea.size.bits → r.testBit k = (d.testBit k || b.testBit k)) ∧
        LoadsRegister (.or ea rd) ea rd (d / m * m + r) (valueFlags m r false s.nzvc.c) s) ∧
      (∃ r, r < m ∧ (∀ k, k < ea.size.bits → r.testBit k = (d.testBit k != b.testBit k)) ∧
        LoadsRegister (.xor ea rd) ea rd (d / m * m + r) (valueFlags m r false s.nzvc.c) s)) ∧
    (ea.regOrMem = true → WritesOperand (.not ea) ea (m - 1 - b % m) (valueFlags m (m - 1 - b % m) false s.nzvc.c) v.2 s)

/-- The shifts and rotates (R270 to R277) as arithmetic on the operand at its width: one position, C the bit that leaves, V
only from SHAL, where it says that the sign changed. -/
def Obligations.Shifts : Prop :=
  ∀ (ea : EA) (s : State), ea.regOrMem = true →
    let m := 2 ^ ea.size.bits
    let v := s.fetched ea
    let a := v.1.toNat % m
    let top := decide (m ≤ 2 * a)
    let low := decide (a % 2 = 1)
    let c := s.nzvc.c.toNat
    let left := 2 * a % m
    let right := a / 2
    let half := m / 2
    WritesOperand (.shal ea) ea left (valueFlags m left (top != decide (m ≤ 2 * left)) top) v.2 s ∧
    WritesOperand (.shll ea) ea left (valueFlags m left false top) v.2 s ∧
    WritesOperand (.rotl ea) ea (left + top.toNat) (valueFlags m (left + top.toNat) false top) v.2 s ∧
    WritesOperand (.rotxl ea) ea (left + c) (valueFlags m (left + c) false top) v.2 s ∧
    WritesOperand (.shar ea) ea (right + top.toNat * half) (valueFlags m (right + top.toNat * half) false low) v.2 s ∧
    WritesOperand (.shlr ea) ea right (valueFlags m right false low) v.2 s ∧
    WritesOperand (.rotr ea) ea (right + low.toNat * half) (valueFlags m (right + low.toNat * half) false low) v.2 s ∧
    WritesOperand (.rotxr ea) ea (right + c * half) (valueFlags m (right + c * half) false low) v.2 s

/-- BSET, BCLR, BNOT, BTST with an immediate or a register bit number (R280 to R288). -/
def Obligations.BitInstructions : Prop :=
  ∀ (ea : EA) (s : State), ea.regOrMem = true →
    (∀ b : BitVec 4,
      let n := b.toNat % ea.size.bits
      changesBit (.bsetI b ea) ea n (fun _ => true) s ∧ changesBit (.bclrI b ea) ea n (fun _ => false) s ∧
      changesBit (.bnotI b ea) ea n (fun x => !x) s ∧ testsBit (.btstI b ea) ea n s) ∧
    (∀ rs : Reg,
      let n := ((s.fetched ea).2.reg rs).toNat % ea.size.bits
      changesBit (.bsetR rs ea) ea n (fun _ => true) s ∧ changesBit (.bclrR rs ea) ea n (fun _ => false) s ∧
      changesBit (.bnotR rs ea) ea n (fun x => !x) s ∧ testsBit (.btstR rs ea) ea n s)

/-! ## Control transfer -/

/-- The sixteen conditions of R300 in both encodings (R301 to R316). -/
def Obligations.Branches : Prop :=
  ∀ (d : Disp) (s : State),
    let n := s.nzvc.n
    let z := s.nzvc.z
    let v := s.nzvc.v
    let c := s.nzvc.c
    branchesIf (.bra d) true d s ∧ branchesIf (.brn d) false d s ∧
    branchesIf (.bhi d) (decide (c = false ∧ z = false)) d s ∧ branchesIf (.bls d) (decide (c = true ∨ z = true)) d s ∧
    branchesIf (.bcc d) (decide (c = false)) d s ∧ branchesIf (.bcs d) (decide (c = true)) d s ∧
    branchesIf (.bne d) (decide (z = false)) d s ∧ branchesIf (.beq d) (decide (z = true)) d s ∧
    branchesIf (.bvc d) (decide (v = false)) d s ∧ branchesIf (.bvs d) (decide (v = true)) d s ∧
    branchesIf (.bpl d) (decide (n = false)) d s ∧ branchesIf (.bmi d) (decide (n = true)) d s ∧
    branchesIf (.bge d) (decide (n = v)) d s ∧ branchesIf (.blt d) (decide (n ≠ v)) d s ∧
    branchesIf (.bgt d) (decide (z = false ∧ n = v)) d s ∧ branchesIf (.ble d) (decide (z = true ∨ n ≠ v)) d s

/-- What the conditions mean after a compare (R300, last column; R232): after `CMP:G <EA>,Rd` a branch is taken exactly when
the named relation holds between Rd and the operand at the operand's width, unsigned or signed. -/
def Obligations.CompareThenBranch : Prop :=
  ∀ (ea : EA) (rd : Reg) (d : Disp) (s u : State), exec (.cmpG ea rd) s = .next u →
    let m := 2 ^ ea.size.bits
    let a := ((s.fetched ea).2.reg rd).toNat % m
    let b := (s.fetched ea).1.toNat % m
    let x := signedMod m a
    let y := signedMod m b
    branchesIf (.bhi d) (decide (b < a)) d u ∧ branchesIf (.bls d) (decide (a ≤ b)) d u ∧
    branchesIf (.bcc d) (decide (b ≤ a)) d u ∧ branchesIf (.bcs d) (decide (a < b)) d u ∧
    branchesIf (.bne d) (decide (a ≠ b)) d u ∧ branchesIf (.beq d) (decide (a = b)) d u ∧
    branchesIf (.bge d) (decide (y ≤ x)) d u ∧ branchesIf (.blt d) (decide (x < y)) d u ∧
    branchesIf (.bgt d) (decide (y < x)) d u ∧ branchesIf (.ble d) (decide (x ≤ y)) d u

/-- The jumps (R320, R321, R324, R325): PC, and CP for the page forms, and nothing else; memory is not read. -/
def Obligations.Jumps : Prop :=
  ∀ s : State,
    (∀ a : Word, exec (.jmpAbs a) s = .next { s with cpu.pc := a }) ∧
    (∀ j : JumpEA, ∃ t, exec (.jmpInd j) s = .next t ∧ t = { s with cpu.pc := t.cpu.pc } ∧
      (t.cpu.pc.toNat : Int) = jumpOffset j s) ∧
    (∀ (p : Byte) (a : Word), exec (.pjmpAbs p a) s = .next { s with cpu.cp := p, cpu.pc := a }) ∧
    (∀ n : Reg, n ≠ .r7 → ∃ t, exec (.pjmpInd n) s = .next t ∧ t = { s with cpu.cp := t.cpu.cp, cpu.pc := t.cpu.pc } ∧
      t.cpu.cp.toNat = (s.reg n).toNat % 256 ∧
      ∃ k : Reg, k.toNat = n.toNat + 1 ∧ t.cpu.pc = s.reg k)

/-- The calls (R318, R322, R323, R326, R339, R170); the target of a call through a register is computed before the push. -/
def Obligations.Calls : Prop :=
  ∀ s : State,
    (∀ d : Disp, callsNear (.bsr d) (((s.cpu.pc.toNat : Int) + dispNumber d) % 0x10000) s) ∧
    (∀ a : Word, callsNear (.jsrAbs a) a.toNat s) ∧
    (∀ j : JumpEA, callsNear (.jsrInd j) (jumpOffset j s) s) ∧
    (∀ (p : Byte) (a : Word), callsFar (.pjsrAbs p a) p.toNat a.toNat s) ∧
    (∀ n k : Reg, k.toNat = n.toNat + 1 →
      callsFar (.pjsrInd n) ((s.reg n).toNat % 256) (s.reg k).toNat s)

/-- The returns (R327, R328, R329, R337, R170). -/
def Obligations.Returns : Prop :=
  ∀ s : State,
    returnsNear .rts 0 s ∧ returnsFar .prts 0 s ∧
    (∀ i : Imm, returnsNear (.rtd i) (immNumber i) s ∧ returnsFar (.prtd i) (immNumber i) s)

/-- A return is the inverse of its call where the stack is in RAM (R327, R337): whatever the called code left in the other
registers, PC, CP and R[7] are what they were at the call. -/
def Obligations.ReturnsInvertCalls : Prop :=
  ∀ (s t : State) (rs : Regs) (pc : Word) (cp : Byte), s.arraysOk = true →
    s.stackRam (s.reg .r7 - 4#16) 2 = true → rs.r7 = t.reg .r7 →
    ((∃ d, exec (.bsr d) s = .next t) ∨ (∃ a, exec (.jsrAbs a) s = .next t) ∨ (∃ j, exec (.jsrInd j) s = .next t) →
      ∃ u, exec .rts { t with cpu.regs := rs, cpu.pc := pc } = .next u ∧ u.cpu.pc = s.cpu.pc ∧ u.reg .r7 = s.reg .r7) ∧
    ((∃ p a, exec (.pjsrAbs p a) s = .next t) ∨ (∃ n, n ≠ .r7 ∧ exec (.pjsrInd n) s = .next t) →
      ∃ u, exec .prts { t with cpu.regs := rs, cpu.pc := pc, cpu.cp := cp } = .next u ∧ u.cpu.pc = s.cpu.pc ∧
        u.cpu.cp = s.cpu.cp ∧ u.reg .r7 = s.reg .r7)

/-- The loop primitive in its three forms (R330 to R332): the counter goes down by one modulo 2^16 and the branch is taken
unless it reached SCB_TERMINAL; SCB/NE with Z = 0 and SCB/EQ with Z = 1 do nothing. Flags never change. -/
def Obligations.LoopPrimitive : Prop :=
  ∀ (rc : Reg) (d : Byte) (s : State),
    let loops (i : Instr) : Prop :=
      ∃ t, exec i s = .next t ∧ t = { s with cpu.regs := t.cpu.regs, cpu.pc := t.cpu.pc } ∧ OtherRegs rc s t ∧
        (t.reg rc).toNat = ((s.reg rc).toNat + 0xFFFF) % 0x10000 ∧
        (t.cpu.pc.toNat : Int) =
          if t.reg rc = s.params.scbTerminal then (s.cpu.pc.toNat : Int)
          else ((s.cpu.pc.toNat : Int) + d.toInt) % 0x10000
    loops (.scbF rc d) ∧
    (if s.nzvc.z = true then loops (.scbNe rc d) else exec (.scbNe rc d) s = .next s) ∧
    (if s.nzvc.z = true then exec (.scbEq rc d) s = .next s else loops (.scbEq rc d))

/-- LINK and UNLK (R334, R336): LINK pushes R[6], points R[6] at it and moves R[7] by the immediate; UNLK pops R[6] from
where R[6] points; with the stack in RAM, UNLK undoes LINK. -/
def Obligations.LinkAndUnlink : Prop :=
  ∀ (i : Imm) (s : State),
    (∃ t, exec (.link i) s = .next t ∧ (t.reg .r6).toNat = ((s.reg .r7).toNat + 0xFFFE) % 0x10000 ∧
      ((t.reg .r7).toNat : Int) = ((t.reg .r6).toNat + immNumber i) % 0x10000 ∧
      Pushed (s.reg .r6) s ((t.setReg .r7 (t.reg .r6)).setReg .r6 (s.reg .r6)) ∧
      (s.arraysOk = true → s.ramAt .word s.pushAddr = true →
        ∀ x : Word, ∃ u, exec .unlk (t.setReg .r7 x) = .next u ∧ u.reg .r6 = s.reg .r6 ∧ u.reg .r7 = s.reg .r7)) ∧
    (∃ t, exec .unlk s = .next t ∧ (t.reg .r7).toNat = ((s.reg .r6).toNat + 2) % 0x10000 ∧
      Popped (t.reg .r6) (s.setReg .r7 (s.reg .r6)) (t.setReg .r6 (s.reg .r6)))

/-! ## System control -/

/-- LDC, ANDC, ORC, XORC with an operand of the register's size (R351, R353, R354, R355, R26, R33, R350). -/
def Obligations.ControlRegisterWrites : Prop :=
  ∀ (ea : EA) (cr : CReg) (s : State), ea.size = cr.size →
    let b := (s.fetched ea).1.toNat
    let c := controlValue cr s
    writesControl (.ldc ea cr) ea cr b.testBit s ∧
    (ea.cls = .imm →
      writesControl (.andc ea cr) ea cr (fun k => c.testBit k && b.testBit k) s ∧
      writesControl (.orc ea cr) ea cr (fun k => c.testBit k || b.testBit k) s ∧
      writesControl (.xorc ea cr) ea cr (fun k => c.testBit k != b.testBit k) s)

/-- STC with an operand of the register's size (R352): the register's value is written, flags and `suppress` stay. -/
def Obligations.ControlRegisterReads : Prop :=
  ∀ (ea : EA) (cr : CReg) (s : State), ea.regOrMem = true → ea.size = cr.size →
    WritesOperand (.stc cr ea) ea (controlValue cr s) s.nzvc (resolveEA ea s).2 s

/-- TRAPA, SLEEP, NOP (R356, R358, R359). -/
def Obligations.TrapSleepNop : Prop :=
  ∀ (n : BitVec 4) (s : State),
    (∃ t, exec (.trapa n) s = .next t ∧ t = { s with cpu.trapPending := t.cpu.trapPending } ∧
      ∀ k, k < 16 → t.cpu.trapPending.getLsbD k = (s.cpu.trapPending.getLsbD k || decide (k = n.toNat))) ∧
    exec .sleep s = .next { s with cpu.sleep := true } ∧
    exec .nop s = .next s

/-- RTE (R357): status, page and PC are popped in this order, SR keeps the bits that exist, the page word's high byte is
ignored, the next check is suppressed. -/
def Obligations.ReturnFromException : Prop :=
  ∀ s : State, ∃ (sr w : Word) (u1 u2 t : State), exec .rte s = .next t ∧
    Popped sr s u1 ∧ Popped w u1 u2 ∧
    Popped t.cpu.pc u2 { t with cpu.sr := s.cpu.sr, cpu.cp := s.cpu.cp, cpu.pc := s.cpu.pc,
                                cpu.suppress := s.cpu.suppress } ∧
    t.cpu.sr = sr &&& 0x870F#16 ∧ t.cpu.cp.toNat = w.toNat % 256 ∧ t.cpu.suppress = true

/-! ## Exceptions and interrupts -/

/-- Taking an exception (R520, R503, R85): PC, then `0x00 : CP`, then SR as it was are pushed; T is cleared, the mask is the
new level or stays, sleep ends; the four bytes of the vector's entry are read in order on page 0, the first is ignored, CP is
the second and PC the other two; nothing else changes: N, Z, V, C, the other registers, `suppress` and every pending bit
stay. Where `MEMMAP` puts the entry in ROM1, as the default does, CP and PC come from ROM1 and the reads change nothing.
Afterwards RTE with the stack in RAM brings SR, CP, PC and R[7] back (R522). -/
def Obligations.ExceptionEntry : Prop :=
  ∀ (v : Nat) (mask : Option (BitVec 3)) (s : State), v < 64 →
    ∃ (u1 u2 u3 : State) (sr : Word),
      Pushed s.cpu.pc s u1 ∧ Pushed (BitVec.ofNat 16 s.cpu.cp.toNat) u1 u2 ∧ Pushed s.cpu.sr u2 u3 ∧
      (∀ k, k < 16 → sr.getLsbD k =
        if k = 15 then false
        else if 8 ≤ k ∧ k < 11 then
          match mask with
          | some l => l.getLsbD (k - 8)
          | none => s.cpu.sr.getLsbD k
        else s.cpu.sr.getLsbD k) ∧
      (let w0 := read8 (BitVec.ofNat 20 (4 * v)) { u3 with cpu.sr := sr, cpu.sleep := false }
       let w1 := read8 (BitVec.ofNat 20 (4 * v + 1)) w0.2
       let w2 := read8 (BitVec.ofNat 20 (4 * v + 2)) w1.2
       let w3 := read8 (BitVec.ofNat 20 (4 * v + 3)) w2.2
       enter v mask s = { w3.2 with cpu.cp := w1.1, cpu.pc := Word.ofBytes w2.1 w3.1 }) ∧
      (vectorInRom s.params v →
        enter v mask s =
          { u3 with cpu.sr := sr, cpu.sleep := false, cpu.cp := s.mem.rom1.read (4 * v + 1),
                    cpu.pc := Word.ofBytes (s.mem.rom1.read (4 * v + 2)) (s.mem.rom1.read (4 * v + 3)) }) ∧
      (s.params.memMap = defaultMemMap → vectorInRom s.params v) ∧
      (s.arraysOk = true → s.statusOk = true → s.stackRam (s.reg .r7 - 6#16) 3 = true →
        ∀ (sr pc : Word) (cp : Byte), ∃ t,
          exec .rte { enter v mask s with cpu.sr := sr, cpu.pc := pc, cpu.cp := cp } = .next t ∧
          t.cpu.sr = s.cpu.sr ∧ t.cpu.cp = s.cpu.cp ∧ t.cpu.pc = s.cpu.pc ∧ t.cpu.regs = s.cpu.regs)

/-- The interrupt check (R510, R512, R513, R514): the lowest pending trap first, which is cleared; then the slot, which is
emptied; then NMI, which stays pending; then, of the maskable sources that are pending, ungated and above the mask, the one
of the highest level and among those the lowest vector number; else nothing. The slot keeps the highest priority of two
requests (R505), and a suppressed check only clears the flag (R33, R150). Each maskable source has the vector, the level
field of IPRA to IPRD and the gate bit of P1CR that R530 gives it, and is acceptable when it is pending, its gate is open
and its level is above SR's I. The host's actions at a boundary are taken in their order (R670): `set_nmi`, `set_irq1`, `set_sci`
and `set_adi` set their own line and change nothing else (R507); that nothing else moves these lines is in StepKeepsLines.
That the actions are a list in State, and that a `tick` in it ends the boundary, is the model's choice
(notes/assumptions/17.md). -/
def Obligations.InterruptPriority : Prop :=
  ∀ s : State,
    (let d := s.dev
     let high (b : Byte) : Nat := b.toNat / 16 % 8
     let low (b : Byte) : Nat := b.toNat % 8
     let table : List (Source × Nat × Nat × Bool) :=
       [(.irq0, 32, high d.ipra, d.p1cr.getLsbD 5), (.irq1, 33, low d.ipra, d.p1cr.getLsbD 6),
        (.frt0Ocia, 35, high d.iprb, true), (.frt0Ocib, 36, high d.iprb, true), (.frt0Fovi, 37, high d.iprb, true),
        (.frt1Ocia, 39, low d.iprb, true), (.frt1Ocib, 40, low d.iprb, true), (.frt1Fovi, 41, low d.iprb, true),
        (.frt2Ocia, 43, high d.iprc, true), (.frt2Ocib, 44, high d.iprc, true), (.frt2Fovi, 45, high d.iprc, true),
        (.tmrCmia, 46, low d.iprc, true), (.tmrCmib, 47, low d.iprc, true), (.tmrOvi, 48, low d.iprc, true),
        (.sciEri, 49, high d.iprd, true), (.sciRxi, 50, high d.iprd, true), (.sciTxi, 51, high d.iprd, true),
        (.adi, 52, low d.iprd, true)]
     maskableSources = table.map Prod.fst ∧
     (∀ x : Source, x ∈ maskableSources ↔ x ≠ .nmi) ∧
     ∀ e ∈ table, e.1.vector = e.2.1 ∧ (d.level e.1).toNat = e.2.2.1 ∧
       s.acceptable e.1 = (s.pending e.1 && e.2.2.2 && decide (s.cpu.sr.toNat / 256 % 8 < e.2.2.1))) ∧
    (∀ (b : Bool) (es : List HostEvent),
      (∀ e ∈ [(HostEvent.setNmi b, Source.nmi), (.setIrq1 b, .irq1), (.setSci .eri b, .sciEri), (.setSci .rxi b, .sciRxi),
          (.setSci .txi b, .sciTxi), (.setAdi b, .adi)], LineSet e.2 b s (hostEvent e.1 s)) ∧
      hostEvent .reset s = hostReset s ∧ (∀ v, hostEvent (.postUart v) s = postUart v s) ∧
      takeHost [] s = { s with model.hostIn := [] } ∧ takeHost (.tick :: es) s = { s with model.hostIn := es } ∧
      ∀ e, e ≠ .tick → takeHost (e :: es) s = takeHost es (hostEvent e s)) ∧
    (∀ k : ExcKind, requestException k s = { s with cpu.excSlot := slotAfter k s.cpu.excSlot } ∧
      ∀ old, slotAfter k old =
        match old, k with
        | none, k => some k
        | some .addressError, _ => some .addressError
        | some .invalidInstruction, .addressError => some .addressError
        | some .invalidInstruction, _ => some .invalidInstruction
        | some .trace, k => some k) ∧
    (boundaryCheck s = if s.cpu.suppress = true then { s with cpu.suppress := false } else interruptCheck s) ∧
    (∀ n, n < 16 → s.cpu.trapPending.getLsbD n = true → (∀ k, k < n → s.cpu.trapPending.getLsbD k = false) →
      ∃ u, interruptCheck s = enter (16 + n) none u ∧ u = { s with cpu.trapPending := u.cpu.trapPending } ∧
        ∀ k, k < 16 → u.cpu.trapPending.getLsbD k = (s.cpu.trapPending.getLsbD k && decide (k ≠ n))) ∧
    (s.cpu.trapPending = 0#16 →
      (∀ k, s.cpu.excSlot = some k →
        interruptCheck s =
          enter (match k with | .addressError => 8 | .invalidInstruction => 2 | .trace => 9) none
            { s with cpu.excSlot := none }) ∧
      (s.cpu.excSlot = none →
        (s.pending .nmi = true → interruptCheck s = enter 11 (some 7#3) s) ∧
        (s.pending .nmi = false →
          (∀ b ∈ maskableSources, s.acceptable b = true →
            (∀ x ∈ maskableSources, s.acceptable x = true →
              (s.dev.level x).toNat < (s.dev.level b).toNat ∨ (s.dev.level x = s.dev.level b ∧ b.vector ≤ x.vector)) →
            interruptCheck s = enter b.vector (some (s.dev.level b)) s) ∧
          ((∀ x ∈ maskableSources, s.acceptable x = false) → interruptCheck s = s))))

/-! ## Timers -/

/-- One tick of each timer as arithmetic (R572, R577), and which clocks tick it (R571, R576): the counter counts modulo its
width, OVF is set on the wrap, a match flag where the counter equals its compare register, flags already set stay; compare A
clears a free-running counter only under FRT_CCLRA with TCSR bit 0, the 8-bit counter clears on the compare that CCLR
selects. A clock advances `tclk` by one and changes no other device register. -/
def Obligations.TimerTicks : Prop :=
  (∀ (cclra : Bool) (f : Frt),
    let n := (f.frc.toNat + 1) % 0x10000
    let a := decide (n = f.ocra.toNat)
    let k := if a = true ∧ cclra = true ∧ f.tcsr.getLsbD 0 = true then 0 else n
    let t := f.tick cclra
    t = { f with frc := t.frc, tcsr := t.tcsr } ∧ t.frc.toNat = k ∧
    t.tcsr.getLsbD 4 = (f.tcsr.getLsbD 4 || decide (f.frc.toNat = 0xFFFF)) ∧
    t.tcsr.getLsbD 5 = (f.tcsr.getLsbD 5 || a) ∧
    t.tcsr.getLsbD 6 = (f.tcsr.getLsbD 6 || decide (k = f.ocrb.toNat)) ∧
    (∀ i, i < 8 → (i < 4 ∨ i = 7) → t.tcsr.getLsbD i = f.tcsr.getLsbD i)) ∧
  (∀ f : Tmr,
    let n := (f.tcnt.toNat + 1) % 0x100
    let a := decide (n = f.tcora.toNat)
    let b := decide (n = f.tcorb.toNat)
    let c := f.tcr.toNat / 8 % 4
    let t := f.tick
    t = { f with tcnt := t.tcnt, tcsr := t.tcsr } ∧
    t.tcnt.toNat = (if (c = 1 ∧ a = true) ∨ (c = 2 ∧ b = true) then 0 else n) ∧
    t.tcsr.getLsbD 5 = (f.tcsr.getLsbD 5 || decide (f.tcnt.toNat = 0xFF)) ∧
    t.tcsr.getLsbD 6 = (f.tcsr.getLsbD 6 || a) ∧ t.tcsr.getLsbD 7 = (f.tcsr.getLsbD 7 || b) ∧
    (∀ i, i < 5 → t.tcsr.getLsbD i = f.tcsr.getLsbD i)) ∧
  (∀ (p : Params) (d : Dev),
    let ticks (period : Nat) : Bool := decide (d.tclk % period = 0)
    let divisor (tcr : Byte) : Nat := if tcr.toNat % 4 = 0 then 4 else if tcr.toNat % 4 = 1 then 8
      else if tcr.toNat % 4 = 2 then 32 else 2
    (∀ k, (d.clock p).frt k = if ticks (divisor (d.frt k).tcr) = true then (d.frt k).tick p.frtCclra else d.frt k) ∧
    d.clock p = { d with frt0 := (d.clock p).frt0, frt1 := (d.clock p).frt1, frt2 := (d.clock p).frt2,
                         tmr := (d.clock p).tmr, tclk := d.tclk + 1 } ∧
    (let c := d.tmr.tcr.toNat % 8
     (d.clock p).tmr =
      if c = 0 ∨ c = 4 then d.tmr
      else if ticks (if c = 1 then 8 else if c = 2 then 64 else if c = 3 then 1024
        else match p.variant with | .mk1 => 4 | .mk2 => 1) = true then d.tmr.tick
      else d.tmr))

/-- The device registers on the bus. The status protocol of the timers (R574, R575, R685): a read returns TCSR and marks
every flag that is 1 and changes nothing else; a write clears a flag exactly where it writes 0 to a marked one, sets none,
stores bits 3:0, changes no other register, and the interrupt lines follow flag and enable (R579). So BCLR of one flag of
TCSR clears that flag and no other (R289). Every other
register of R38 reads back what was written, by halves where it has 16 bits (R86, R573), a write reaches that register alone,
and after a write of a TCR the lines are evaluated again; every other offset is external (R84). -/
def Obligations.TimerStatusProtocol : Prop :=
  (∀ (s : State) (k : FrtId) (pa : BusAddr) (i : Nat) (v : Byte), s.target pa = .dev i → devReg i = .frt k .tcsr →
    (let r := read8 pa s
     r.1 = (s.dev.frt k).tcsr ∧
     (∀ j, 4 ≤ j → j < 7 → ((r.2.dev.frt k).rdShadow.getLsbD j =
       ((s.dev.frt k).rdShadow.getLsbD j || (s.dev.frt k).tcsr.getLsbD j))) ∧
     r.2 = { s with dev := s.dev.setFrt k { s.dev.frt k with rdShadow := (r.2.dev.frt k).rdShadow } }) ∧
    (let t := write8 pa v s
     (∀ j, 4 ≤ j → j < 7 →
       let cleared := (s.dev.frt k).rdShadow.getLsbD j && !v.getLsbD j
       (t.dev.frt k).tcsr.getLsbD j = ((s.dev.frt k).tcsr.getLsbD j && !cleared) ∧
       (t.dev.frt k).rdShadow.getLsbD j = ((s.dev.frt k).rdShadow.getLsbD j && !cleared)) ∧
     (∀ j, j < 4 → (t.dev.frt k).tcsr.getLsbD j = v.getLsbD j) ∧ (t.dev.frt k).tcsr.getLsbD 7 = false ∧
     t = timerLines { s with dev := s.dev.setFrt k { s.dev.frt k with tcsr := (t.dev.frt k).tcsr,
                                                                      rdShadow := (t.dev.frt k).rdShadow } } ∧
     (∀ x ∈ t.dev.lines, t.pending x.1 = x.2) ∧
     (∀ x : Source, x ∉ t.dev.lines.map Prod.fst → t.pending x = s.pending x)) ∧
    (∀ (ea : EA) (b : BitVec 4), ea.size = .byte → s.operandAddr ea = some pa →
      ∃ t, exec (.bclrI b ea) s = .next t ∧
        ∀ j, j < 7 → (t.dev.frt k).tcsr.getLsbD j = ((s.dev.frt k).tcsr.getLsbD j && !decide (j = b.toNat % 8)))) ∧
  (∀ (s : State) (pa : BusAddr) (i : Nat) (v : Byte), s.target pa = .dev i → devReg i = .tmrTcsr →
    let f := s.dev.tmr
    (let r := read8 pa s
     r.1 = f.tcsr ∧ r.2 = { s with dev.tmr := { f with rdShadow := r.2.dev.tmr.rdShadow } } ∧
     ∀ j, 5 ≤ j → j < 8 → r.2.dev.tmr.rdShadow.getLsbD j = (f.rdShadow.getLsbD j || f.tcsr.getLsbD j)) ∧
    (let t := write8 pa v s
     t = timerLines { s with dev.tmr := { f with tcsr := t.dev.tmr.tcsr, rdShadow := t.dev.tmr.rdShadow } } ∧
     (∀ j, 5 ≤ j → j < 8 →
       let cleared := f.rdShadow.getLsbD j && !v.getLsbD j
       t.dev.tmr.tcsr.getLsbD j = (f.tcsr.getLsbD j && !cleared) ∧
       t.dev.tmr.rdShadow.getLsbD j = (f.rdShadow.getLsbD j && !cleared)) ∧
     (∀ j, j < 4 → t.dev.tmr.tcsr.getLsbD j = v.getLsbD j) ∧ t.dev.tmr.tcsr.getLsbD 4 = false) ∧
    (∀ (ea : EA) (b : BitVec 4), ea.size = .byte → s.operandAddr ea = some pa →
      ∃ t, exec (.bclrI b ea) s = .next t ∧
        ∀ j, j < 8 → j ≠ 4 → t.dev.tmr.tcsr.getLsbD j = (f.tcsr.getLsbD j && !decide (j = b.toNat % 8)))) ∧
  (∀ (s : State) (pa : BusAddr) (i : Nat) (v : Byte), s.target pa = .dev i →
    let r := read8 pa s
    let t := write8 pa v s
    let byte (old : Byte) (new : State) : Prop := r = (old, s) ∧ t = new
    let half (isHigh : Bool) (old : Word) (new : Word → State) : Prop :=
      r.2 = s ∧ r.1.toNat = (if isHigh = true then old.toNat / 256 else old.toNat % 256) ∧
      ∃ w : Word, t = new w ∧
        w.toNat = if isHigh = true then v.toNat * 256 + old.toNat % 256 else old.toNat / 256 * 256 + v.toNat
    (∀ e ∈ [(FrtId.k0, 0x10), (.k1, 0x20), (.k2, 0x30)],
      let f := s.dev.frt e.1
      let put (g : Frt) : State := { s with dev := s.dev.setFrt e.1 g }
      (i = e.2 → byte f.tcr (timerLines (put { f with tcr := v }))) ∧
      (i = e.2 + 1 → devReg i = .frt e.1 .tcsr) ∧
      (i = e.2 + 2 → half true f.frc fun w => put { f with frc := w }) ∧
      (i = e.2 + 3 → half false f.frc fun w => put { f with frc := w }) ∧
      (i = e.2 + 4 → half true f.ocra fun w => put { f with ocra := w }) ∧
      (i = e.2 + 5 → half false f.ocra fun w => put { f with ocra := w }) ∧
      (i = e.2 + 6 → half true f.ocrb fun w => put { f with ocrb := w }) ∧
      (i = e.2 + 7 → half false f.ocrb fun w => put { f with ocrb := w })) ∧
    (i = 0x50 → byte s.dev.tmr.tcr (timerLines { s with dev.tmr.tcr := v })) ∧
    (i = 0x51 → devReg i = .tmrTcsr) ∧
    (i = 0x52 → byte s.dev.tmr.tcora { s with dev.tmr.tcora := v }) ∧
    (i = 0x53 → byte s.dev.tmr.tcorb { s with dev.tmr.tcorb := v }) ∧
    (i = 0x54 → byte s.dev.tmr.tcnt { s with dev.tmr.tcnt := v }) ∧
    (i = 0x70 → byte s.dev.ipra { s with dev.ipra := v }) ∧ (i = 0x71 → byte s.dev.iprb { s with dev.iprb := v }) ∧
    (i = 0x72 → byte s.dev.iprc { s with dev.iprc := v }) ∧ (i = 0x73 → byte s.dev.iprd { s with dev.iprd := v }) ∧
    (i = 0x79 → byte s.dev.ramcr { s with dev.ramcr := v }) ∧ (i = 0x7C → byte s.dev.p1cr { s with dev.p1cr := v }) ∧
    ((i < 0x10 ∨ (0x10 ≤ i ∧ i < 0x40 ∧ 8 ≤ i % 16) ∨ (0x40 ≤ i ∧ i < 0x50) ∨ (0x55 ≤ i ∧ i < 0x70) ∨
        (0x74 ≤ i ∧ i ≠ 0x79 ∧ i ≠ 0x7C)) →
      devReg i = .ext ∧ r.2 = { s with model.draws := s.model.draws + 1 } ∧
      t = { s with model.hostOut := .extWrite pa v :: s.model.hostOut })) ∧
  (∀ s : State,
    let t := timerLines s
    let on (x : Source) (flags enables : Byte) (j : Nat) : Prop :=
      t.pending x = (flags.getLsbD j && enables.getLsbD j)
    t = { s with cpu.intPending := t.cpu.intPending } ∧
    (∀ e ∈ [(FrtId.k0, Source.frt0Ocia, Source.frt0Ocib, Source.frt0Fovi), (.k1, .frt1Ocia, .frt1Ocib, .frt1Fovi),
        (.k2, .frt2Ocia, .frt2Ocib, .frt2Fovi)],
      let f := s.dev.frt e.1
      on e.2.1 f.tcsr f.tcr 5 ∧ on e.2.2.1 f.tcsr f.tcr 6 ∧ on e.2.2.2 f.tcsr f.tcr 4) ∧
    on .tmrCmia s.dev.tmr.tcsr s.dev.tmr.tcr 6 ∧ on .tmrCmib s.dev.tmr.tcsr s.dev.tmr.tcr 7 ∧
    on .tmrOvi s.dev.tmr.tcsr s.dev.tmr.tcr 5 ∧
    ∀ x ∈ [Source.irq0, .irq1, .sciEri, .sciRxi, .sciTxi, .adi, .nmi], t.pending x = s.pending x) ∧
  (∀ (d : Dev) (f : Frt),
    d.frt .k0 = d.frt0 ∧ d.frt .k1 = d.frt1 ∧ d.frt .k2 = d.frt2 ∧ d.setFrt .k0 f = { d with frt0 := f } ∧
    d.setFrt .k1 f = { d with frt1 := f } ∧ d.setFrt .k2 f = { d with frt2 := f })

/-- The two schedules that follow the cycle counter (R570, R630, R642), stated of the loops' results: the timers process
clocks exactly while `tclk * TIMER_DIV < cycles`, each clock as TimerTicks says, with the lines those of the timers after the
last; the PCM engine runs ticks of `(active_voice_count + 1) * 25` cycles exactly while `pcm_cycles < cycles`, one sample
each, and touches nothing of the main core but the line of IRQ0. -/
def Obligations.Schedules : Prop :=
  ∀ s : State,
    (∃ n, (timerUpdate s).dev = Nat.iterate (Dev.clock s.params) n s.dev ∧
      (timerUpdate s).dev.tclk = s.dev.tclk + n ∧
      timerUpdate s = { s with dev := (timerUpdate s).dev, cpu.intPending := (timerUpdate s).cpu.intPending } ∧
      (n = 0 → timerUpdate s = s) ∧
      (0 < n → ∀ x ∈ (timerUpdate s).dev.lines, (timerUpdate s).pending x.1 = x.2) ∧
      (∀ x : Source, x ∉ s.dev.lines.map Prod.fst → (timerUpdate s).pending x = s.pending x)) ∧
    (0 < s.params.timerDiv →
      s.cpu.cycles ≤ (timerUpdate s).dev.tclk * s.params.timerDiv ∧
      ((timerUpdate s).dev.tclk = s.dev.tclk ∨ ((timerUpdate s).dev.tclk - 1) * s.params.timerDiv < s.cpu.cycles)) ∧
    (let p := (s.pcm.activeVoiceCount.toNat + 1) * 25
     let t := pcmUpdate s
     ∃ n, t = Nat.iterate pcmTick n s ∧ t.pcm.pcmCycles = s.pcm.pcmCycles + n * p ∧ s.cpu.cycles ≤ t.pcm.pcmCycles ∧
       (n = 0 ∨ t.pcm.pcmCycles < s.cpu.cycles + p) ∧
       t.model.hostOut.length = s.model.hostOut.length + n ∧
       (t.pcm.envCounter.toNat = (s.pcm.envCounter.toNat + n) % 2 ^ 14) ∧
       (0 < n → t.pcm.keyonCommitted = s.pcm.keyonPending) ∧ t.pcm.keyonPending = s.pcm.keyonPending ∧
       t = { s with pcm := t.pcm, model.hostOut := t.model.hostOut, cpu.intPending := t.cpu.intPending } ∧
       ∀ x : Source, x ≠ .irq0 → t.pending x = s.pending x)

/-! ## The PCM engine -/

/-- `AddClip20` and `Multi` (R632, R633) give the exact sum or product where it fits, else the nearest bound, and the sum is
commutative. The voice interrupt (R638, R640): the first completion with the enable set latches the channel and raises IRQ0, a
completion while one is in flight is lost; the status read returns both, keeps the channel and drops IRQ0. A tick raises
IRQ0 exactly when it puts an interrupt in flight. The window's other fixed registers (R640): 0x3C is `active_voice_count`,
0x3D the low byte of `wave_bank` (whose 16 bits are the model's choice, notes/assumptions/20.md), 0x3F is FILL, writes of
0x3E and 0x3F are discarded; an access of a register below 0x3C changes nothing outside the engine, a read there at most
the voices, the key-on masks, `wave_bank` and `env_counter` (notes/assumptions/24.md), a write at most the voices and
`keyon_pending`. One tick (R631, R637): the voices up
to min(active_voice_count, NVOICES - 1) whose key-on bit is committed and pending are stepped and summed, a committed voice
no longer pending has its filter, envelope levels and nibble cleared and nothing else, every other voice is kept, and what
is pending becomes committed; the first active voice that completes with its enable set is the one latched; the sample is the
two sums shifted and clamped, silence with no active voice. That the two sums are exact, integers without a bound, is the
model's choice (R48 says "at least 32 bits"; notes/assumptions/36.md), and so is the form of a voice's open functions, whose
shares are summed (R634; notes/assumptions/23.md). -/
def Obligations.PcmPrimitivesAndInterrupt : Prop :=
  (∀ (a b : BitVec 20) (c : Bool),
    let x := a.toInt + b.toInt + (c.toNat : Int)
    (addClip20 a b c).toInt = (if x < -524288 then -524288 else if 524287 < x then 524287 else x) ∧
    addClip20 a b c = addClip20 b a c) ∧
  (∀ (a : BitVec 20) (b : BitVec 8),
    let p := a.toInt * b.toInt
    multi a b = (if p < -16777216 then -16777216 else if 16777215 < p then 16777215 else p)) ∧
  (∀ (n : Nat) (done : Bool) (m : Pcm), n < 32 →
    let fires := done = true ∧ (m.voice n).irqEn = true ∧ m.voiceIrqPending = false
    let t := m.voiceIrq n done
    t = { m with voiceIrqPending := t.voiceIrqPending, voiceIrqChannel := t.voiceIrqChannel } ∧
    (fires → t.voiceIrqPending = true ∧ t.voiceIrqChannel.toNat = n) ∧ (¬fires → t = m)) ∧
  (∀ s : State,
    let r := pcmRead 0x3E#6 s
    r.1.toNat = (if s.pcm.voiceIrqPending = true then 128 else 0) + s.pcm.voiceIrqChannel.toNat ∧
    LineSet .irq0 false { s with pcm.voiceIrqPending := false } r.2) ∧
  (∀ (s : State) (q : BitVec 6) (v : Byte), q.toNat < 0x3C →
    (let t := (pcmRead q s).2
     t = { s with pcm := { s.pcm with voices := t.pcm.voices, keyonCommitted := t.pcm.keyonCommitted,
                                      keyonPending := t.pcm.keyonPending, waveBank := t.pcm.waveBank,
                                      envCounter := t.pcm.envCounter } }) ∧
    (let t := pcmWrite q v s
     t = { s with pcm := { s.pcm with voices := t.pcm.voices, keyonPending := t.pcm.keyonPending } })) ∧
  (∀ s : State, (s.pending .irq0 = s.pcm.voiceIrqPending →
    (pcmTick s).pending .irq0 = (pcmTick s).pcm.voiceIrqPending) ∧
    (s.pcm.voiceIrqPending = true → (pcmTick s).pcm.voiceIrqChannel = s.pcm.voiceIrqChannel ∧
      (pcmTick s).pcm.voiceIrqPending = true)) ∧
  (∀ (s : State) (v : Byte),
    (let r := pcmRead 0x3C#6 s
     r.1.toNat = s.pcm.activeVoiceCount.toNat ∧ r.2 = s) ∧
    (let t := pcmWrite 0x3C#6 v s
     t = { s with pcm.activeVoiceCount := t.pcm.activeVoiceCount } ∧
     t.pcm.activeVoiceCount.toNat = v.toNat % 32) ∧
    (let r := pcmRead 0x3D#6 s
     r.1.toNat = s.pcm.waveBank.toNat % 256 ∧ r.2 = s) ∧
    (let t := pcmWrite 0x3D#6 v s
     t = { s with pcm.waveBank := t.pcm.waveBank } ∧ t.pcm.waveBank.toNat = v.toNat) ∧
    pcmRead 0x3F#6 s = (s.params.fill, s) ∧ pcmWrite 0x3E#6 v s = s ∧ pcmWrite 0x3F#6 v s = s) ∧
  (∀ s : State, s.voicesOk = true →
    let m := s.pcm
    let t := pcmTick s
    let looked (n : Nat) : Bool := decide (n ≤ m.activeVoiceCount.toNat) && decide (n < s.params.voiceSlots.count)
    let active (n : Nat) : Bool := looked n && m.keyonCommitted.getLsbD n && m.keyonPending.getLsbD n
    let stepped (n : Nat) : VoiceOut := voiceStep m.env (m.voice n)
    let completes (n : Nat) : Bool := active n && (stepped n).done && (stepped n).voice.irqEn
    let sample (sum : Int) : Int := max (-32768) (min 32767 (sum >>> Config.pcmOutShift))
    t = { s with pcm := t.pcm, cpu.intPending := t.cpu.intPending,
                 model.hostOut := .sample (sample t.pcm.accLeft) (sample t.pcm.accRight) :: s.model.hostOut } ∧
    t.pcm = { m with voices := t.pcm.voices, keyonCommitted := t.pcm.keyonCommitted, envCounter := t.pcm.envCounter,
                     pcmCycles := m.pcmCycles + (m.activeVoiceCount.toNat + 1) * 25, accLeft := t.pcm.accLeft,
                     accRight := t.pcm.accRight, voiceIrqPending := t.pcm.voiceIrqPending,
                     voiceIrqChannel := t.pcm.voiceIrqChannel } ∧
    t.pcm.envCounter.toNat = (m.envCounter.toNat + 1) % 2 ^ 14 ∧
    (let first := (List.range 32).find? completes
     t.pcm.voiceIrqPending = (m.voiceIrqPending || first.isSome) ∧
     t.pcm.voiceIrqChannel.toNat =
       match m.voiceIrqPending, first with
       | false, some n => n
       | false, none => m.voiceIrqChannel.toNat
       | true, _ => m.voiceIrqChannel.toNat) ∧
    (∀ n, n < s.params.voiceSlots.count →
      t.pcm.voice n =
        if active n = true then (stepped n).voice
        else if m.keyonCommitted.getLsbD n = true ∧ m.keyonPending.getLsbD n = false then
          { m.voice n with acc := 0#32, envLevel0 := 0#16, envLevel1 := 0#16, envLevel2 := 0#16, nibble := 0#4 }
        else m.voice n) ∧
    t.pcm.keyonCommitted = m.keyonPending ∧ t.pcm.keyonPending = m.keyonPending ∧
    t.pcm.accLeft = (((List.range 32).filter active).map fun n => (stepped n).left).sum ∧
    t.pcm.accRight = (((List.range 32).filter active).map fun n => (stepped n).right).sum ∧
    ((∀ n, n < 32 → active n = false) → t.model.hostOut = .sample 0 0 :: s.model.hostOut))

/-! ## Shared memory and the link -/

/-- The shared bytes with their access flags (R621, R622, R623): every access of either core stores or returns the byte; the
producer's write sets its flag, the consumer's read clears it, by `ramdir[0]`; no other flag and no other byte changes, and
nothing else but what COLLISION_RULE adds where it is on (R609); that the rule looks at the access alone is the model's choice
(notes/assumptions/22.md). -/
def Obligations.SharedAccessFlags : Prop :=
  ∀ (s : State) (i : Nat) (v : Byte), i < 192 →
    let p := s.link.ramdir.getLsbD 0
    let flags (t : State) (b : Bool) (set : Bool) : Prop :=
      ∀ j, j < 192 → t.link.flag j = if j = i ∧ b = true then set else s.link.flag j
    ((subShRead i s).1 = s.link.shram.read i ∧ (subShRead i s).2.link.shram = s.link.shram ∧
      flags (subShRead i s).2 p false) ∧
    ((mainShRead i s).1 = s.link.shram.read i ∧ (mainShRead i s).2.link.shram = s.link.shram ∧
      flags (mainShRead i s).2 (!p) false) ∧
    ((subShWrite i v s).link.shram = s.link.shram.write i v ∧ flags (subShWrite i v s) (!p) true) ∧
    ((mainShWrite i v s).link.shram = s.link.shram.write i v ∧ flags (mainShWrite i v s) p true) ∧
    (SharedFrame ⟨.sub, false, i⟩ s (subShRead i s).2 ∧ SharedFrame ⟨.main, false, i⟩ s (mainShRead i s).2 ∧
      SharedFrame ⟨.sub, true, i⟩ s (subShWrite i v s) ∧ SharedFrame ⟨.main, true, i⟩ s (mainShWrite i v s)) ∧
    ((subShWrite i v s).link.ramdir = s.link.ramdir ∧
      (p = false → (subShWrite i v s).link.flag i = true ∧ (mainShRead i (subShWrite i v s)).2.link.flag i = false))

/-- The byte-wide links between the cores (R605, R608, R611, R620): what one core writes at its end the other reads at its
own, and the main core's mailbox write raises the timer/IPC source of the sub core. Every register of the device block at
whatever offset `SUBDEVMAP` gives it, and the default offsets (R600 to R612): what a read returns and changes, what a write
changes. UART and device time (R604, R606): a posted byte becomes ready at the first update at or after its due time and
raises its source, a second byte in flight is dropped; the prescaled timer counts down once every `16 * (prescale + 1)`
cycles and raises its source when it passes zero; the passage of time changes nothing else, and a posted byte only the byte in
flight and its due time. -/
def Obligations.SubDevices : Prop :=
  ∀ (s : State) (v b : Byte),
    let l := s.link
    let pend (t : State) (j : Nat) (x : Bool) : Prop :=
      t.link.intPending.getLsbD j = x ∧
        ∀ k, k < 8 → k ≠ j → t.link.intPending.getLsbD k = l.intPending.getLsbD k
    (pend (windowWrite 0xE0 v s) 6 true ∧ windowWrite 0xE3 v s = s ∧
     ∀ i,
      match subDevReg s.params i with
      | none =>
        subDevRead i s = (l.stored.read i, s) ∧
        subDevWrite i v s = { s with link.stored := l.stored.write i v } ∧
        (s.arraysOk = true → i < 0x20 → (subDevRead i (subDevWrite i v s)).1 = v)
      | some (.uData c) =>
        (let r := subDevRead i s
         r.1 = (l.uart c).rxData ∧ pend r.2 (2 * c.toNat) false ∧
         r.2 = { s with link := { l.setUart c { l.uart c with rxReady := false } with
                                  intPending := r.2.link.intPending } }) ∧
        (let t := subDevWrite i b s
         pend t (2 * c.toNat + 1) true ∧
         t = { s with link := { l.setUart c { l.uart c with txData := b } with intPending := t.link.intPending },
                      model.hostOut := .uartTx c b :: s.model.hostOut })
      | some (.uStat c) =>
        (subDevRead i s).1.toNat = (l.uart c).rxReady.toNat + 2 * (l.uart c).txEmpty.toNat ∧ (subDevRead i s).2 = s ∧
        subDevWrite i v s = s
      | some (.uMode c) =>
        subDevRead i s = ((l.uart c).mode, s) ∧
        subDevWrite i v s = { s with link := l.setUart c { l.uart c with mode := v } }
      | some (.uBaud c) =>
        subDevRead i s = ((l.uart c).baud, s) ∧
        subDevWrite i v s = { s with link := l.setUart c { l.uart c with baud := v } }
      | some .mbox =>
        subDevRead i s = (l.mboxM2s, s) ∧ subDevWrite i v s = { s with link.mboxS2m := v } ∧
        (subDevRead i (windowWrite 0xE0 v s)).1 = v ∧ (windowRead 0xE0 (subDevWrite i v s)).1 = v
      | some .sema =>
        subDevRead i s = (l.semaphore, s) ∧ subDevWrite i v s = { s with link.semaphore := v } ∧
        (subDevRead i (windowWrite 0xE1 v s)).1 = v ∧ (windowRead 0xE1 (subDevWrite i v s)).1 = v
      | some .coll =>
        (let r := subDevRead i s
         r.1 = l.collision ∧ pend r.2 7 false ∧
         r.2 = { s with link := { l with collision := 0x00#8, intPending := r.2.link.intPending } }) ∧
        subDevWrite i v s = s
      | some .ramdir =>
        subDevRead i s = (l.ramdir, s) ∧ subDevWrite i v s = { s with link.ramdir := v } ∧
        (windowRead 0xE3 (subDevWrite i v s)).1 = v
      | some .tpre => subDevRead i s = (l.stPrescale, s) ∧ subDevWrite i v s = { s with link.stPrescale := v }
      | some .tcnt => subDevRead i s = (l.stCount, s) ∧ subDevWrite i v s = { s with link.stCount := v }
      | some .ien =>
        (subDevRead i s).1.toNat = l.intEnable.toNat ∧ (subDevRead i s).2 = s ∧
        (let t := subDevWrite i v s
         t = { s with link.intEnable := t.link.intEnable } ∧ t.link.intEnable.toNat = v.toNat % 32)
      | some .ipend =>
        subDevRead i s = (l.intPending, s) ∧
        (let t := subDevWrite i v s
         t = { s with link.intPending := t.link.intPending } ∧
         ∀ k, k < 8 → t.link.intPending.getLsbD k = (l.intPending.getLsbD k && v.getLsbD k))
      | some .pout =>
        subDevRead i s = (l.latchS2m, s) ∧ subDevWrite i v s = { s with link.latchS2m := v } ∧
        (windowRead 0xE2 (subDevWrite i v s)).1 = v
      | some .pin =>
        subDevRead i s = (l.latchM2s, s) ∧ subDevWrite i v s = s ∧ (subDevRead i (windowWrite 0xE2 v s)).1 = v) ∧
    (s.params.subDevMap = defaultSubDevMap →
      (∀ c : Chan, subDevReg s.params (4 * c.toNat) = some (.uData c) ∧
        subDevReg s.params (4 * c.toNat + 1) = some (.uStat c) ∧
        subDevReg s.params (4 * c.toNat + 2) = some (.uMode c) ∧
        subDevReg s.params (4 * c.toNat + 3) = some (.uBaud c)) ∧
      (∀ e ∈ [(0x0C, SubDevReg.mbox), (0x0D, .sema), (0x0E, .coll), (0x0F, .ramdir), (0x10, .tpre), (0x11, .tcnt),
          (0x12, .ien), (0x13, .ipend), (0x14, .pout), (0x15, .pin)], subDevReg s.params e.1 = some e.2) ∧
      ∀ i, 0x16 ≤ i → subDevReg s.params i = none) ∧
    (s.params.variant = .mk2 →
      (l.uart0.rxDue = none →
        postUart b s =
          { s with link.uart0 :=
              { l.uart0 with rxIncoming := b, rxDue := some (s.sub.cycles + Config.uartRxLatency) } }) ∧
      (l.uart0.rxDue ≠ none → postUart b s = s)) ∧
    (s.params.variant = .mk1 → postUart b s = s) ∧
    (∀ u : Uart,
      l.uart .c0 = l.uart0 ∧ l.uart .c1 = l.uart1 ∧ l.uart .c2 = l.uart2 ∧ l.setUart .c0 u = { l with uart0 := u } ∧
      l.setUart .c1 u = { l with uart1 := u } ∧ l.setUart .c2 u = { l with uart2 := u }) ∧
    (let p := 16 * (l.stPrescale.toNat + 1)
     let t := (subDevUpdate s).link
     let arrives (u : Uart) : Bool := u.rxDue.any fun d => decide (d ≤ s.sub.cycles)
     subDevUpdate s =
       { s with link := { l with uart0 := t.uart0, uart1 := t.uart1, uart2 := t.uart2, stDiv := t.stDiv,
                                 stCount := t.stCount, intPending := t.intPending } } ∧
     (∀ c, t.uart c =
       if arrives (l.uart c) = true then
         { l.uart c with rxData := (l.uart c).rxIncoming, rxReady := true, rxDue := none }
       else l.uart c) ∧
     ∃ k, t.stDiv + k * p = l.stDiv + Config.subCpi ∧ t.stDiv < p ∧
       t.stCount = l.stCount - BitVec.ofNat 8 k ∧
       ∀ j, j < 8 → t.intPending.getLsbD j =
         (l.intPending.getLsbD j || (decide (j = 0) && arrives l.uart0) || (decide (j = 2) && arrives l.uart1) ||
           (decide (j = 4) && arrives l.uart2) || (decide (j = 6) && decide (l.stCount.toNat < k))))

/-! ## The sub core -/

/-- The addressing modes of R405: the operand's place, its address as arithmetic; the indirect mode reads its pointer, low
byte first, both bytes inside the zero page (so the second byte of a pointer at 0xFF is at 0x00). The operand is A, the byte
of the instruction, or what `SubRead` gives at the address. `SubRead` and `SubWrite` by the map of R402, whose bits 15:13 are
not decoded: private RAM, access flags, device block, shared RAM, ROM, and unmapped addresses, which read FILL; writes to
ROM and to unmapped addresses are discarded. Finding and reading an operand leaves what a read leaves alone. -/
def Obligations.SubAddressing : Prop :=
  ∀ (s : State) (z : Byte) (a : Word),
    subPlace .acc s = (.acc, s) ∧ (∀ n, subPlace (.imm n) s = (.imm n, s)) ∧
    (∃ e : Word, subPlace (.zp z) s = (.mem e, s) ∧ e.toNat = z.toNat) ∧
    (∃ e : Word, subPlace (.zpx z) s = (.mem e, s) ∧ e.toNat = (z.toNat + s.sub.x.toNat) % 256) ∧
    (∃ e : Word, subPlace (.zpy z) s = (.mem e, s) ∧ e.toNat = (z.toNat + s.sub.y.toNat) % 256) ∧
    subPlace (.abs a) s = (.mem a, s) ∧
    (∃ e : Word, subPlace (.absx a) s = (.mem e, s) ∧ e.toNat = (a.toNat + s.sub.x.toNat) % 0x10000) ∧
    (∃ e : Word, subPlace (.absy a) s = (.mem e, s) ∧ e.toNat = (a.toNat + s.sub.y.toNat) % 0x10000) ∧
    (let l := subRead (BitVec.ofNat 16 z.toNat) s
     let h := subRead (BitVec.ofNat 16 ((z.toNat + 1) % 256)) l.2
     ∃ e : Word, subPlace (.indy z) s = (.mem e, h.2) ∧ SubReadFrame s h.2 ∧
       e.toNat = (l.1.toNat + 256 * h.1.toNat + s.sub.y.toNat) % 0x10000 ∧
       (z.toNat < 0x7F → h.2 = s ∧
         e.toNat = ((s.sub.ram.read z.toNat).toNat + 256 * (s.sub.ram.read (z.toNat + 1)).toNat + s.sub.y.toNat) %
           0x10000)) ∧
    subOperand .acc s = (s.sub.a, s) ∧ (∀ n, subOperand (.imm n) s = (n, s)) ∧
    (∀ m e, (subPlace m s).1 = .mem e → subOperand m s = subRead e (subPlace m s).2) ∧
    (∀ m, SubReadFrame s (subOperand m s).2) ∧
    (let n := a.toNat % 0x2000
     ∀ v : Byte,
      if n < 0x80 then
        subRead a s = (s.sub.ram.read n, s) ∧ subWrite a v s = { s with sub.ram := s.sub.ram.write n v }
      else if 0xC0 ≤ n ∧ n < 0xD8 then
        (subRead a s).2 = s ∧ (∀ k, k < 8 → (subRead a s).1.getLsbD k = s.link.flag (8 * (n - 0xC0) + k)) ∧
        (let t := subWrite a v s
         t = { s with link.acc := t.link.acc } ∧
         ∀ j, j < 192 → t.link.flag j = if j / 8 = n - 0xC0 then v.getLsbD (j % 8) else s.link.flag j)
      else if 0xE0 ≤ n ∧ n < 0x100 then
        subRead a s = subDevRead (n - 0xE0) s ∧ subWrite a v s = subDevWrite (n - 0xE0) v s
      else if 0x200 ≤ n ∧ n < 0x2C0 then
        subRead a s = subShRead (n - 0x200) s ∧ subWrite a v s = subShWrite (n - 0x200) v s
      else if 0x1000 ≤ n then
        subRead a s = (s.sub.rom.read (n - 0x1000), s) ∧ subWrite a v s = s
      else
        subRead a s = (s.params.fill, s) ∧ subWrite a v s = s)

/-- LDA with T clear, LDX, LDY (R410 to R412), and the transfers (R417 to R422): the destination, N and Z from it, TXS
without a flag; no other register, no other flag and no memory changes. -/
def Obligations.SubLoadsAndTransfers : Prop :=
  ∀ (s : State) (m : SubMode),
    (s.pT = false → subLoads (.s8Lda m) m (fun t => t.sub.a) s ∧
      ∀ t, exec (.s8Lda m) s = .next t → t.sub.x = s.sub.x ∧ t.sub.y = s.sub.y) ∧
    (subLoads (.s8Ldx m) m (fun t => t.sub.x) s ∧
      ∀ t, exec (.s8Ldx m) s = .next t → t.sub.a = s.sub.a ∧ t.sub.y = s.sub.y) ∧
    (subLoads (.s8Ldy m) m (fun t => t.sub.y) s ∧
      ∀ t, exec (.s8Ldy m) s = .next t → t.sub.a = s.sub.a ∧ t.sub.x = s.sub.x) ∧
    (let moves (i : Instr) (v : Byte) (set : State → State) : Prop :=
       ∃ t p, exec i s = .next t ∧ t = { set s with sub.p := p } ∧ nzOf v t ∧ keepsP [1, 7] s t
     moves .s8Tax s.sub.a (fun u => { u with sub.x := s.sub.a }) ∧
     moves .s8Txa s.sub.x (fun u => { u with sub.a := s.sub.x }) ∧
     moves .s8Tay s.sub.a (fun u => { u with sub.y := s.sub.a }) ∧
     moves .s8Tya s.sub.y (fun u => { u with sub.a := s.sub.y }) ∧
     moves .s8Tsx s.sub.s (fun u => { u with sub.x := s.sub.s })) ∧
    exec .s8Txs s = .next { s with sub.s := s.sub.x }

/-- STA, STX, STY, LDM (R413 to R416) write the register or the immediate at the operand's address; PHA and PHP push,
PLA and PLP pull through S in the zero page (R404, R423 to R426). The stores and pushes leave every flag alone. -/
def Obligations.SubStoresAndStack : Prop :=
  ∀ s : State,
    (∀ (m : SubMode) (e : Word), (subPlace m s).1 = .mem e →
      (∃ t, exec (.s8Sta m) s = .next t ∧ SubWritten e s.sub.a (subPlace m s).2 t) ∧
      (∃ t, exec (.s8Stx m) s = .next t ∧ SubWritten e s.sub.x (subPlace m s).2 t) ∧
      (∃ t, exec (.s8Sty m) s = .next t ∧ SubWritten e s.sub.y (subPlace m s).2 t)) ∧
    (∀ n z : Byte, ∃ t, exec (.s8Ldm n z) s = .next t ∧ SubWritten (BitVec.ofNat 16 z.toNat) n s t) ∧
    (∀ (i : Instr) (v : Byte), (i = .s8Pha ∧ v = s.sub.a) ∨ (i = .s8Php ∧ v.toNat = s.sub.p.toNat % 16 + 16 +
        s.sub.p.toNat / 32 * 32) →
      ∃ t, exec i s = .next t ∧ SubPushed v s t) ∧
    (let r := subRead (BitVec.ofNat 16 ((s.sub.s.toNat + 1) % 256)) { s with sub.s := s.sub.s + 1#8 }
     (∃ t p, exec .s8Pla s = .next t ∧ t = { r.2 with sub.a := r.1, sub.p := p } ∧ nzOf r.1 t ∧ keepsP [1, 7] s t) ∧
     (∃ t p, exec .s8Plp s = .next t ∧ t = { r.2 with sub.p := p } ∧
       ∀ k, k < 8 → p.getLsbD k = (r.1.getLsbD k && decide (k ≠ 4))))

/-- ADC and SBC with D and T clear (R430, R431, R406): the sum, or the difference with C as the complement of the borrow;
C and V of the exact arithmetic, N and Z of the result. -/
def Obligations.SubAddSubtract : Prop :=
  ∀ (s : State) (m : SubMode), s.pT = false → s.pD = false →
    let o := (subOperand m s).1
    let a := s.sub.a.toNat
    let b := o.toNat
    let c := s.pC.toNat
    let sx := s.sub.a.toInt + o.toInt + (c : Int)
    let sy := s.sub.a.toInt - o.toInt - (1 - (c : Int))
    (∃ t, exec (.s8Adc m) s = .next t ∧ t.sub.a.toNat = (a + b + c) % 256 ∧ t.pC = decide (256 ≤ a + b + c) ∧
      t.pV = decide (sx < -128 ∨ 127 < sx) ∧ nzOf t.sub.a t ∧ keepsP [0, 1, 6, 7] s t ∧
      t = { (subOperand m s).2 with sub.a := t.sub.a, sub.p := t.sub.p }) ∧
    (∃ t, exec (.s8Sbc m) s = .next t ∧ t.sub.a.toNat = (a + 255 + c - b) % 256 ∧ t.pC = decide (b + 1 ≤ a + c) ∧
      t.pV = decide (sy < -128 ∨ 127 < sy) ∧ nzOf t.sub.a t ∧ keepsP [0, 1, 6, 7] s t ∧
      t = { (subOperand m s).2 with sub.a := t.sub.a, sub.p := t.sub.p })

/-- CMP with T clear, CPX, CPY (R432 to R434, R406) and BIT (R444): flags alone; V is kept by a compare. -/
def Obligations.SubCompareAndBit : Prop :=
  ∀ (s : State) (m : SubMode),
    let o := (subOperand m s).1
    let compares (i : Instr) (r : Byte) : Prop :=
      ∃ t, exec i s = .next t ∧ t = { (subOperand m s).2 with sub.p := t.sub.p } ∧
        t.pC = decide (o.toNat ≤ r.toNat) ∧ t.pZ = decide (r = o) ∧
        t.pN = decide (128 ≤ (r.toNat + 256 - o.toNat) % 256) ∧ keepsP [0, 1, 7] s t
    (s.pT = false → compares (.s8Cmp m) s.sub.a) ∧ compares (.s8Cpx m) s.sub.x ∧ compares (.s8Cpy m) s.sub.y ∧
    (∃ t, exec (.s8Bit m) s = .next t ∧ t = { (subOperand m s).2 with sub.p := t.sub.p } ∧
      t.pN = o.getLsbD 7 ∧ t.pV = o.getLsbD 6 ∧
      (t.pZ = true ↔ ∀ k, k < 8 → ¬(s.sub.a.getLsbD k = true ∧ o.getLsbD k = true)) ∧ keepsP [1, 6, 7] s t)

/-- INC, DEC and the index registers' INX, INY, DEX, DEY (R435 to R440), and AND, ORA, EOR with T clear (R441 to R443):
C and V never change. -/
def Obligations.SubIncrementAndLogic : Prop :=
  ∀ (s : State) (m : SubMode),
    let o := (subOperand m s).1
    (m.kind.isModify = true →
      subModifies (.s8Inc m) m ((o.toNat + 1) % 256) [1, 7] s ∧
      subModifies (.s8Dec m) m ((o.toNat + 255) % 256) [1, 7] s) ∧
    (let steps (i : Instr) (v : Byte) (set : Byte → State) (d : Nat) : Prop :=
       ∃ t r p, exec i s = .next t ∧ r.toNat = (v.toNat + d) % 256 ∧ t = { set r with sub.p := p } ∧ nzOf r t ∧
         keepsP [1, 7] s t
     steps .s8Inx s.sub.x (fun r => { s with sub.x := r }) 1 ∧ steps .s8Iny s.sub.y (fun r => { s with sub.y := r }) 1 ∧
     steps .s8Dex s.sub.x (fun r => { s with sub.x := r }) 255 ∧
     steps .s8Dey s.sub.y (fun r => { s with sub.y := r }) 255) ∧
    (s.pT = false →
      let logic (i : Instr) (f : Bool → Bool → Bool) : Prop :=
        ∃ t, exec i s = .next t ∧ t = { (subOperand m s).2 with sub.a := t.sub.a, sub.p := t.sub.p } ∧
          (∀ k, k < 8 → t.sub.a.getLsbD k = f (s.sub.a.getLsbD k) (o.getLsbD k)) ∧ nzOf t.sub.a t ∧ keepsP [1, 7] s t
      logic (.s8And m) (fun x y => x && y) ∧ logic (.s8Ora m) (fun x y => x || y) ∧
      logic (.s8Eor m) (fun x y => x != y))

/-- ASL, LSR, ROL, ROR (R445 to R448) as arithmetic on the byte: one position, C is the bit that leaves, ROL and ROR bring C
in. -/
def Obligations.SubShifts : Prop :=
  ∀ (s : State) (m : SubMode), m.kind.isModify = true →
    let v := (subOperand m s).1.toNat
    let c := s.pC.toNat
    subModifies (.s8Asl m) m (2 * v % 256) [0, 1, 7] s ∧ subModifies (.s8Lsr m) m (v / 2) [0, 1, 7] s ∧
    subModifies (.s8Rol m) m (2 * v % 256 + c) [0, 1, 7] s ∧ subModifies (.s8Ror m) m (v / 2 + 128 * c) [0, 1, 7] s ∧
    (∀ t, exec (.s8Asl m) s = .next t ∨ exec (.s8Rol m) s = .next t → t.pC = decide (128 ≤ v)) ∧
    (∀ t, exec (.s8Lsr m) s = .next t ∨ exec (.s8Ror m) s = .next t → t.pC = decide (v % 2 = 1))

/-- The branches of the sub core (R450 to R458) and its jumps (R459, R460); the pointer's second byte is at the next address
with full carry. -/
def Obligations.SubBranchesAndJumps : Prop :=
  ∀ (s : State) (r : Byte) (a : Word),
    subBranches (.s8Bpl r) (decide (s.pN = false)) r s ∧ subBranches (.s8Bmi r) (decide (s.pN = true)) r s ∧
    subBranches (.s8Bvc r) (decide (s.pV = false)) r s ∧ subBranches (.s8Bvs r) (decide (s.pV = true)) r s ∧
    subBranches (.s8Bcc r) (decide (s.pC = false)) r s ∧ subBranches (.s8Bcs r) (decide (s.pC = true)) r s ∧
    subBranches (.s8Bne r) (decide (s.pZ = false)) r s ∧ subBranches (.s8Beq r) (decide (s.pZ = true)) r s ∧
    subBranches (.s8Bra r) true r s ∧
    exec (.s8JmpAbs a) s = .next { s with sub.spc := a } ∧
    (let l := subRead a s
     let h := subRead (BitVec.ofNat 16 (a.toNat + 1)) l.2
     ∃ t, exec (.s8JmpInd a) s = .next t ∧ t = { h.2 with sub.spc := t.sub.spc } ∧ SubReadFrame s h.2 ∧
       t.sub.spc.toNat = l.1.toNat + 256 * h.1.toNat)

/-- JSR, RTS, RTI, BRK and taking an interrupt (R461 to R464, R593, R404), wherever S points: what is pushed and pulled in
which order, S, P and SPC; which sources are due (R592: pending and enabled), the source taken and its vector. Where the
stack is in the private RAM: the stored bytes; RTS
undoes JSR, RTI undoes BRK and an entry. A call's other registers stay. -/
def Obligations.SubCallsAndInterrupts : Prop :=
  ∀ s : State,
    let split (h l : Byte) (n : Nat) : Prop := 256 * h.toNat + l.toNat = n % 0x10000
    (∀ a : Word, ∃ (t u : State) (h l : Byte), exec (.s8Jsr a) s = .next t ∧ split h l (s.sub.spc.toNat + 0xFFFF) ∧
      SubPushed h s u ∧ SubPushed l u { t with sub.spc := s.sub.spc } ∧ t.sub.spc = a ∧
      t.sub.s.toNat = (s.sub.s.toNat + 254) % 256 ∧
      t.sub.a = s.sub.a ∧ t.sub.x = s.sub.x ∧ t.sub.y = s.sub.y ∧ t.sub.p = s.sub.p ∧ SubSide s t ∧
      (2 ≤ s.sub.s.toNat → s.sub.s.toNat < 0x80 → s.arraysOk = true →
        t.link = s.link ∧ t.model = s.model ∧
        256 * (t.sub.ram.read s.sub.s.toNat).toNat + (t.sub.ram.read (s.sub.s.toNat - 1)).toNat =
          (s.sub.spc.toNat + 0xFFFF) % 0x10000 ∧
        (∀ j, j ≠ s.sub.s.toNat → j ≠ s.sub.s.toNat - 1 → t.sub.ram.read j = s.sub.ram.read j) ∧
        exec .s8Rts t = .next { t with sub.spc := s.sub.spc, sub.s := s.sub.s })) ∧
    (∃ (t u : State) (l h : Byte), exec .s8Rts s = .next t ∧ SubPulled l s u ∧
      SubPulled h u { t with sub.spc := s.sub.spc } ∧ split h l (t.sub.spc.toNat + 0xFFFF) ∧
      t.sub.s.toNat = (s.sub.s.toNat + 2) % 256 ∧ SubSide s t ∧
      (s.sub.s.toNat < 0x7E →
        t.sub.spc.toNat = (256 * (s.sub.ram.read (s.sub.s.toNat + 2)).toNat +
          (s.sub.ram.read (s.sub.s.toNat + 1)).toNat + 1) % 0x10000 ∧
        t = { s with sub.s := t.sub.s, sub.spc := t.sub.spc })) ∧
    (∃ (t u1 u2 : State) (p l h : Byte), exec .s8Rti s = .next t ∧ SubPulled p s u1 ∧ SubPulled l u1 u2 ∧
      SubPulled h u2 { t with sub.spc := s.sub.spc, sub.p := s.sub.p } ∧ split h l t.sub.spc.toNat ∧
      (∀ k, k < 8 → t.sub.p.getLsbD k = (p.getLsbD k && decide (k ≠ 4))) ∧
      t.sub.s.toNat = (s.sub.s.toNat + 3) % 256 ∧ SubSide s t ∧
      (s.sub.s.toNat < 0x7D →
        t.sub.spc.toNat = 256 * (s.sub.ram.read (s.sub.s.toNat + 3)).toNat +
          (s.sub.ram.read (s.sub.s.toNat + 2)).toNat ∧
        (∀ k, k < 8 → k ≠ 4 → t.sub.p.getLsbD k = (s.sub.ram.read (s.sub.s.toNat + 1)).getLsbD k) ∧
        t = { s with sub.s := t.sub.s, sub.spc := t.sub.spc, sub.p := t.sub.p })) ∧
    (∃ (t u1 u2 : State) (h l p : Byte), exec .s8Brk s = .next t ∧ split h l (s.sub.spc.toNat + 1) ∧
      SubPushed h s u1 ∧ SubPushed l u1 u2 ∧ SubPushed p u2 { t with sub.spc := s.sub.spc, sub.p := s.sub.p } ∧
      (∀ k, k < 8 → p.getLsbD k = (s.sub.p.getLsbD k || decide (k = 4))) ∧
      t.sub.s.toNat = (s.sub.s.toNat + 253) % 256 ∧ t.pI = true ∧ keepsP [2] s t ∧
      t.sub.spc = Word.ofBytes (s.sub.rom.read 0xFED) (s.sub.rom.read 0xFEC) ∧ SubSide s t ∧
      (3 ≤ s.sub.s.toNat → s.sub.s.toNat < 0x80 → s.arraysOk = true → s.statusOk = true →
        exec .s8Rti t = .next { t with sub.spc := s.sub.spc + 1#16, sub.s := s.sub.s, sub.p := s.sub.p })) ∧
    (∀ j, j < 8 → s.link.due j =
      (s.link.intPending.getLsbD j && s.link.intEnable.getLsbD (if j = 7 then 4 else j / 2))) ∧
    (s.pI = true → subInterruptCheck s = s) ∧
    (s.pI = false → (∀ j, j < 8 → s.link.due j = false) → subInterruptCheck s = s) ∧
    (∀ j, s.pI = false → j < 8 → s.link.due j = true → (∀ k, k < j → s.link.due k = false) →
      let t := subInterruptCheck s
      (∃ (u1 u2 : State) (h l : Byte), split h l s.sub.spc.toNat ∧ SubPushed h s u1 ∧ SubPushed l u1 u2 ∧
        SubPushed s.sub.p u2 { t with sub.spc := s.sub.spc, sub.p := s.sub.p }) ∧
      t.sub.s.toNat = (s.sub.s.toNat + 253) % 256 ∧ t.pI = true ∧ keepsP [2] s t ∧
      t.sub.spc = Word.ofBytes (s.sub.rom.read (0xFFD - 2 * j)) (s.sub.rom.read (0xFFC - 2 * j)) ∧ SubSide s t ∧
      (3 ≤ s.sub.s.toNat → s.sub.s.toNat < 0x80 → s.arraysOk = true → s.statusOk = true →
        t.link = s.link ∧ exec .s8Rti t = .next { t with sub.spc := s.sub.spc, sub.s := s.sub.s, sub.p := s.sub.p }))

/-- The bit families (R465 to R468), the flag instructions and NOP (R469, R471 to R477). -/
def Obligations.SubBitsAndFlags : Prop :=
  ∀ s : State,
    (∀ (i : BitVec 3) (r z : Byte),
      (subBranches (.s8Bbs i .acc r) (s.sub.a.getLsbD i.toNat) r s ∧
       subBranches (.s8Bbc i .acc r) (!s.sub.a.getLsbD i.toNat) r s) ∧
      (let v := subRead (BitVec.ofNat 16 z.toNat) s
       SubReadFrame s v.2 ∧
       (∃ t, exec (.s8Bbs i (.zp z) r) s = .next t ∧ t = { v.2 with sub.spc := t.sub.spc } ∧
         (t.sub.spc.toNat : Int) = if v.1.getLsbD i.toNat = true then ((s.sub.spc.toNat : Int) + r.toInt) % 0x10000
           else s.sub.spc.toNat) ∧
       (∃ t, exec (.s8Bbc i (.zp z) r) s = .next t ∧ t = { v.2 with sub.spc := t.sub.spc } ∧
         (t.sub.spc.toNat : Int) = if v.1.getLsbD i.toNat = true then (s.sub.spc.toNat : Int)
           else ((s.sub.spc.toNat : Int) + r.toInt) % 0x10000) ∧
       (∃ t w, exec (.s8Seb i (.zp z)) s = .next t ∧
         (∀ k, k < 8 → w.getLsbD k = (v.1.getLsbD k || decide (k = i.toNat))) ∧
         SubWritten (BitVec.ofNat 16 z.toNat) w v.2 t) ∧
       (∃ t w, exec (.s8Clb i (.zp z)) s = .next t ∧
         (∀ k, k < 8 → w.getLsbD k = (v.1.getLsbD k && decide (k ≠ i.toNat))) ∧
         SubWritten (BitVec.ofNat 16 z.toNat) w v.2 t)) ∧
      (∃ t, exec (.s8Seb i .acc) s = .next t ∧ t = { s with sub.a := t.sub.a } ∧
        ∀ k, k < 8 → t.sub.a.getLsbD k = (s.sub.a.getLsbD k || decide (k = i.toNat))) ∧
      (∃ t, exec (.s8Clb i .acc) s = .next t ∧ t = { s with sub.a := t.sub.a } ∧
        ∀ k, k < 8 → t.sub.a.getLsbD k = (s.sub.a.getLsbD k && decide (k ≠ i.toNat)))) ∧
    exec .s8Nop s = .next s ∧
    (let sets (i : Instr) (n : Nat) (b : Bool) : Prop :=
       ∃ t, exec i s = .next t ∧ t = { s with sub.p := t.sub.p } ∧ t.sub.p.getLsbD n = b ∧ keepsP [n] s t
     sets .s8Clc 0 false ∧ sets .s8Sec 0 true ∧ sets .s8Cli 2 false ∧ sets .s8Sei 2 true ∧ sets .s8Clv 6 false ∧
     sets .s8Cld 3 false ∧ sets .s8Clt 5 false)

/-- The unspecified results of U2 and U6 (the model's choice, notes/assumptions/10.md and 12.md): DIVXU by zero (R242)
completes, only its destination and the four flags take free values; on the sub core (R407), with T set LDA, ADC, SBC,
CMP, AND, ORA, EOR, and with D set ADC and SBC, complete; only A and the flags the instruction writes take free values, and
N and Z of an
instruction that writes A are those of A. -/
def Obligations.OpenResults : Prop :=
  ∀ (s : State) (m : SubMode),
    (∀ (ea : EA) (rd : Reg), (ea.size = .word → rd.toNat % 2 = 0) → (s.fetched ea).1.toNat = 0 →
      ∃ t, exec (.divxu ea rd) s = .next t ∧ SameControl s t ∧ MainSide s t ∧ SameSrSystem s t ∧ ArraysKept s t ∧
        SteppedRegs ea (pairOf ea.size rd) s t ∧
        t = { (s.fetched ea).2 with cpu.regs := t.cpu.regs, cpu.sr := t.cpu.sr, model.draws := t.model.draws }) ∧
    let open_ (i : Instr) (written : List Nat) : Prop :=
      ∃ t, exec i s = .next t ∧ keepsP written s t ∧ nzOf t.sub.a t ∧
        t = { (subOperand m s).2 with sub.a := t.sub.a, sub.p := t.sub.p, model.draws := t.model.draws }
    (s.pT = true → open_ (.s8Lda m) [1, 7] ∧ open_ (.s8And m) [1, 7] ∧ open_ (.s8Ora m) [1, 7] ∧
      open_ (.s8Eor m) [1, 7] ∧
      ∃ t, exec (.s8Cmp m) s = .next t ∧ keepsP [0, 1, 7] s t ∧
        t = { (subOperand m s).2 with sub.p := t.sub.p, model.draws := t.model.draws }) ∧
    (s.pT = true ∨ s.pD = true → open_ (.s8Adc m) [0, 1, 6, 7] ∧ open_ (.s8Sbc m) [0, 1, 6, 7])

/-! ## Invariants and reset -/

/-- Every step keeps a legal state legal: the arrays in canonical form and within their sizes, the bits of SR and P that do
not exist 0, no shadow bit over a clear timer flag, NVOICES voice slots, the sub core's turn on mk2 only. -/
def Obligations.StepKeepsLegal : Prop :=
  ∀ s t : State, s.legal = true → step s = .next t → t.legal = true

/-- Every step keeps the interrupt lines levels: a timer source is pending exactly when its flag and its enable are set, IRQ0
exactly while a voice interrupt is in flight (R515, R579, R638, R640). The lines of NMI, IRQ1, SCI and ADI are what the host's
actions at the boundary made them, and only those: taking the interrupt does not clear them (R507, R514, R670). -/
def Obligations.StepKeepsLines : Prop :=
  (∀ s t : State, s.linesOk = true → step s = .next t → t.linesOk = true) ∧
  (∀ s t : State, step s = .next t →
    (s.model.phase = .main → ∀ x ∈ hostLines, t.pending x = (takeHost s.model.hostIn s).pending x) ∧
    (s.model.phase = .sub → ∀ x ∈ hostLines, t.pending x = s.pending x))

/-- No step changes a ROM image or a parameter (R18, R653; R72, R83: writes to ROM are discarded), and time does not run
backwards unless the host resets: without a reset among the host's events, `cycles` (R30, R150), `tclk` (R570), `pcm_cycles`
(R630) and `sub_cycles` (R591) never decrease. -/
def Obligations.StepKeepsConfiguration : Prop :=
  ∀ s t : State, step s = .next t →
    t.params = s.params ∧ t.mem.rom1 = s.mem.rom1 ∧ t.mem.rom2 = s.mem.rom2 ∧ t.sub.rom = s.sub.rom ∧
    t.pcm.waveRom = s.pcm.waveRom ∧
    (.reset ∉ s.model.hostIn → s.cpu.cycles ≤ t.cpu.cycles ∧ s.dev.tclk ≤ t.dev.tclk ∧
      s.pcm.pcmCycles ≤ t.pcm.pcmCycles ∧ s.sub.cycles ≤ t.sub.cycles)

/-- `State.reset` is legal, its interrupt lines are levels, and it is a fixed point of `Reset()`. Of the model's own fields
`Reset()` changes the phase alone, which becomes that of the main core (notes/assumptions/33.md). -/
def Obligations.ResetIsLegal : Prop :=
  State.reset.legal = true ∧ State.reset.linesOk = true ∧ hostReset State.reset = State.reset ∧
  ∀ s : State, vectorInRom s.params 0 → (hostReset s).model = { s.model with phase := .main }

/-- `Reset()` from any state (R50 to R53, R650, R652): every register of every agent has its stated value, PC, CP and SPC
come from the vectors (SPC on mk2 only: on mk1 it stays), the memories, the parameters and S stay, and a second reset
changes nothing. `MEMMAP` has vector 0 in
ROM1, as R650 says of page 0 and as the default has. -/
def Obligations.ResetFromAnyState : Prop :=
  (∀ p : Params, p.memMap = defaultMemMap → vectorInRom p 0) ∧
  ∀ s : State, vectorInRom s.params 0 →
    let t := hostReset s
    hostReset t = t ∧
    t.cpu =
      { regs := ⟨0, 0, 0, 0, 0, 0, 0, 0⟩, sr := 0x0700#16, dp := 0#8, ep := 0#8, tp := 0#8, br := 0#8, cycles := 0,
        sleep := false, suppress := false, excSlot := none, trapPending := 0#16, intPending := 0#19,
        cp := s.mem.rom1.read 1, pc := Word.ofBytes (s.mem.rom1.read 2) (s.mem.rom1.read 3) } ∧
    (let f : Frt := { tcr := 0#8, tcsr := 0#8, frc := 0#16, ocra := 0xFFFF#16, ocrb := 0xFFFF#16, rdShadow := 0#8 }
     t.dev =
      { frt0 := f, frt1 := f, frt2 := f,
        tmr := { tcr := 0#8, tcsr := 0#8, tcnt := 0#8, tcora := 0xFF#8, tcorb := 0xFF#8, rdShadow := 0#8 },
        ipra := 0#8, iprb := 0#8, iprc := 0#8, iprd := 0#8, ramcr := 0#8, p1cr := 0#8, tclk := 0 }) ∧
    (let u : Uart := { rxData := 0#8, rxReady := false, rxDue := none, rxIncoming := 0#8, txData := 0#8, txEmpty := true,
                       mode := 0#8, baud := 0#8 }
     t.link =
      { shram := s.link.shram, acc := 0#192, ramdir := 0#8, mboxM2s := 0#8, mboxS2m := 0#8, semaphore := 0#8,
        collision := 0#8, latchS2m := 0#8, latchM2s := 0#8, uart0 := u, uart1 := u, uart2 := u, stPrescale := 0#8,
        stCount := 0#8, stDiv := 0, intEnable := 0#5, intPending := 0#8, stored := [] }) ∧
    (t.pcm =
      { voices := List.replicate s.params.voiceSlots.count PcmVoice.zero, keyonCommitted := 0#32, keyonPending := 0#32,
        waveBank := 0#16, pcmCycles := 0, envCounter := 0#14, voiceIrqPending := false, voiceIrqChannel := 0#5,
        activeVoiceCount := 0#5, accLeft := 0, accRight := 0, waveRom := s.pcm.waveRom }) ∧
    t.mem = s.mem ∧ t.params = s.params ∧
    (s.params.variant = .mk2 → t.sub =
      { a := 0x00#8, x := 0x00#8, y := 0x00#8, s := s.sub.s, p := 0x04#8,
        spc := Word.ofBytes (s.sub.rom.read 0xFFF) (s.sub.rom.read 0xFFE), cycles := 0, rom := s.sub.rom,
        ram := s.sub.ram }) ∧
    (s.params.variant = .mk1 → t.sub =
      { a := 0x00#8, x := 0x00#8, y := 0x00#8, s := s.sub.s, p := 0x04#8, spc := s.sub.spc, cycles := 0, rom := s.sub.rom,
        ram := s.sub.ram })
end

