-- ==== Sys2Proof/Laws/Memory.lean ====
section
/-! SUPPORT. Byte arrays: a read after a write, and the canonical form that every write keeps. -/

namespace Sys2Proof.Machine

/-- An array in canonical form from `lo` on lists nothing below `lo`. -/
theorem Memory.read_below (hi : Nat) : ∀ (m : Memory) (lo a : Nat), Memory.wfIn lo hi m = true → a < lo →
    m.read a = Memory.blank
  | [], _, _, _, _ => rfl
  | (k, v) :: m, lo, a, h, ha => by
    simp only [Memory.wfIn, Bool.and_eq_true, decide_eq_true_eq] at h
    simp only [Memory.read]
    rw [if_neg (by omega)]
    exact Memory.read_below hi m (k + 1) a h.2 (by omega)

/-- Reading the byte just written. -/
theorem Memory.read_write_same (hi : Nat) (v : Byte) : ∀ (m : Memory) (lo a : Nat), Memory.wfIn lo hi m = true →
    (m.write a v).read a = v
  | [], _, a, _ => by
    simp only [Memory.write]
    split <;> simp_all [Memory.read]
  | (k, w) :: m, lo, a, h => by
    have h' := h
    simp only [Memory.wfIn, Bool.and_eq_true, decide_eq_true_eq] at h
    simp only [Memory.write]
    split
    · split
      · rename_i h1 h2
        subst h2
        simp only [Memory.read]
        rw [if_neg (by omega)]
        exact Memory.read_below hi m (k + 1) a h.2 (by omega)
      · simp [Memory.read]
    · split
      · split
        · rename_i h1 h2 h3
          subst h3
          exact Memory.read_below hi m (k + 1) a h.2 (by omega)
        · simp [Memory.read]
      · simp only [Memory.read]
        rw [if_neg (by omega)]
        exact Memory.read_write_same hi v m (k + 1) a h.2

/-- A write leaves every other byte alone. -/
theorem Memory.read_write_other (v : Byte) : ∀ (m : Memory) (a b : Nat), b ≠ a → (m.write a v).read b = m.read b
  | [], a, b, hb => by
    simp only [Memory.write]
    split <;> simp [Memory.read, Ne.symm hb]
  | (k, w) :: m, a, b, hb => by
    simp only [Memory.write]
    split
    · split
      · rfl
      · simp [Memory.read, Ne.symm hb]
    · split
      · rename_i h1 h2
        subst h2
        split
        · simp [Memory.read, Ne.symm hb]
        · simp [Memory.read, Ne.symm hb]
      · simp only [Memory.read]
        split
        · rfl
        · exact Memory.read_write_other v m a b hb

/-- A smaller lower bound is weaker. -/
theorem Memory.wfIn_mono (hi : Nat) (m : Memory) (lo lo' : Nat) (h : Memory.wfIn lo hi m = true) (hl : lo' ≤ lo) :
    Memory.wfIn lo' hi m = true := by
  cases m with
  | nil => rfl
  | cons c m =>
    obtain ⟨k, v⟩ := c
    simp only [Memory.wfIn, Bool.and_eq_true, decide_eq_true_eq] at h ⊢
    exact ⟨⟨⟨by omega, h.1.1.2⟩, h.1.2⟩, h.2⟩

/-- A write inside the bounds keeps the canonical form. -/
theorem Memory.wfIn_write (hi : Nat) (v : Byte) : ∀ (m : Memory) (lo a : Nat), Memory.wfIn lo hi m = true → lo ≤ a →
    a < hi → Memory.wfIn lo hi (m.write a v) = true
  | [], lo, a, _, hl, hh => by
    simp only [Memory.write]
    split
    · rfl
    · rename_i h
      simp [Memory.wfIn, hl, hh, h]
  | (k, w) :: m, lo, a, h, hl, hh => by
    have h' := h
    simp only [Memory.wfIn, Bool.and_eq_true, decide_eq_true_eq] at h
    simp only [Memory.write]
    split
    · split
      · exact h'
      · rename_i h1 h2
        simp only [Memory.wfIn, Bool.and_eq_true, decide_eq_true_eq]
        refine ⟨⟨⟨hl, hh⟩, by simpa using h2⟩, ⟨⟨by omega, h.1.1.2⟩, h.1.2⟩, h.2⟩
    · split
      · rename_i h1 h2
        subst h2
        split
        · exact Memory.wfIn_mono hi m _ _ h.2 (by omega)
        · rename_i h3
          simp only [Memory.wfIn, Bool.and_eq_true, decide_eq_true_eq]
          exact ⟨⟨⟨hl, hh⟩, by simpa using h3⟩, h.2⟩
      · simp only [Memory.wfIn, Bool.and_eq_true, decide_eq_true_eq]
        exact ⟨h.1, Memory.wfIn_write hi v m (k + 1) a h.2 (by omega) hh⟩

/-- A write of an array's own index keeps its canonical form. -/
theorem Memory.wf_write (size : Nat) (m : Memory) (a : Nat) (v : Byte) (h : m.wf size = true) (ha : a < size) :
    (m.write a v).wf size = true := Memory.wfIn_write size v m 0 a h (Nat.zero_le a) ha

/-- Loading bytes keeps the canonical form. -/
theorem Memory.wf_load (size : Nat) : ∀ (vs : List Byte) (m : Memory) (a : Nat), m.wf size = true →
    a + vs.length ≤ size → (m.load a vs).wf size = true
  | [], _, _, h, _ => h
  | v :: vs, m, a, h, hl => by
    simp only [List.length_cons] at hl
    exact Memory.wf_load size vs _ (a + 1) (Memory.wf_write size m a v h (by omega)) (by omega)

end Sys2Proof.Machine
end

