-- ==== Sys2Proof/Laws/State.lean ====
section
/-! SUPPORT. The small lemmas of the accessors that write the state: one for each field each of them leaves or writes, true
by definition. -/

namespace Sys2Proof.Machine

variable (s : State)

@[simp] theorem setReg_params (n : Reg) (v : Word) : (s.setReg n v).params = s.params := rfl
@[simp] theorem setReg_cpu_regs (n : Reg) (v : Word) : (s.setReg n v).cpu.regs = s.cpu.regs.set n v := rfl
@[simp] theorem setReg_cpu_pc (n : Reg) (v : Word) : (s.setReg n v).cpu.pc = s.cpu.pc := rfl
@[simp] theorem setReg_cpu_sr (n : Reg) (v : Word) : (s.setReg n v).cpu.sr = s.cpu.sr := rfl
@[simp] theorem setReg_cpu_cp (n : Reg) (v : Word) : (s.setReg n v).cpu.cp = s.cpu.cp := rfl
@[simp] theorem setReg_cpu_dp (n : Reg) (v : Word) : (s.setReg n v).cpu.dp = s.cpu.dp := rfl
@[simp] theorem setReg_cpu_ep (n : Reg) (v : Word) : (s.setReg n v).cpu.ep = s.cpu.ep := rfl
@[simp] theorem setReg_cpu_tp (n : Reg) (v : Word) : (s.setReg n v).cpu.tp = s.cpu.tp := rfl
@[simp] theorem setReg_cpu_br (n : Reg) (v : Word) : (s.setReg n v).cpu.br = s.cpu.br := rfl
@[simp] theorem setReg_cpu_cycles (n : Reg) (v : Word) : (s.setReg n v).cpu.cycles = s.cpu.cycles := rfl
@[simp] theorem setReg_cpu_sleep (n : Reg) (v : Word) : (s.setReg n v).cpu.sleep = s.cpu.sleep := rfl
@[simp] theorem setReg_cpu_suppress (n : Reg) (v : Word) : (s.setReg n v).cpu.suppress = s.cpu.suppress := rfl
@[simp] theorem setReg_cpu_excSlot (n : Reg) (v : Word) : (s.setReg n v).cpu.excSlot = s.cpu.excSlot := rfl
@[simp] theorem setReg_cpu_trapPending (n : Reg) (v : Word) : (s.setReg n v).cpu.trapPending = s.cpu.trapPending := rfl
@[simp] theorem setReg_cpu_intPending (n : Reg) (v : Word) : (s.setReg n v).cpu.intPending = s.cpu.intPending := rfl
@[simp] theorem setReg_mem (n : Reg) (v : Word) : (s.setReg n v).mem = s.mem := rfl
@[simp] theorem setReg_dev (n : Reg) (v : Word) : (s.setReg n v).dev = s.dev := rfl
@[simp] theorem setReg_sub (n : Reg) (v : Word) : (s.setReg n v).sub = s.sub := rfl
@[simp] theorem setReg_link (n : Reg) (v : Word) : (s.setReg n v).link = s.link := rfl
@[simp] theorem setReg_pcm (n : Reg) (v : Word) : (s.setReg n v).pcm = s.pcm := rfl
@[simp] theorem setReg_model (n : Reg) (v : Word) : (s.setReg n v).model = s.model := rfl

@[simp] theorem setPc_params (v : Word) : (s.setPc v).params = s.params := rfl
@[simp] theorem setPc_cpu_regs (v : Word) : (s.setPc v).cpu.regs = s.cpu.regs := rfl
@[simp] theorem setPc_cpu_pc (v : Word) : (s.setPc v).cpu.pc = v := rfl
@[simp] theorem setPc_cpu_sr (v : Word) : (s.setPc v).cpu.sr = s.cpu.sr := rfl
@[simp] theorem setPc_cpu_cp (v : Word) : (s.setPc v).cpu.cp = s.cpu.cp := rfl
@[simp] theorem setPc_cpu_dp (v : Word) : (s.setPc v).cpu.dp = s.cpu.dp := rfl
@[simp] theorem setPc_cpu_ep (v : Word) : (s.setPc v).cpu.ep = s.cpu.ep := rfl
@[simp] theorem setPc_cpu_tp (v : Word) : (s.setPc v).cpu.tp = s.cpu.tp := rfl
@[simp] theorem setPc_cpu_br (v : Word) : (s.setPc v).cpu.br = s.cpu.br := rfl
@[simp] theorem setPc_cpu_cycles (v : Word) : (s.setPc v).cpu.cycles = s.cpu.cycles := rfl
@[simp] theorem setPc_cpu_sleep (v : Word) : (s.setPc v).cpu.sleep = s.cpu.sleep := rfl
@[simp] theorem setPc_cpu_suppress (v : Word) : (s.setPc v).cpu.suppress = s.cpu.suppress := rfl
@[simp] theorem setPc_cpu_excSlot (v : Word) : (s.setPc v).cpu.excSlot = s.cpu.excSlot := rfl
@[simp] theorem setPc_cpu_trapPending (v : Word) : (s.setPc v).cpu.trapPending = s.cpu.trapPending := rfl
@[simp] theorem setPc_cpu_intPending (v : Word) : (s.setPc v).cpu.intPending = s.cpu.intPending := rfl
@[simp] theorem setPc_mem (v : Word) : (s.setPc v).mem = s.mem := rfl
@[simp] theorem setPc_dev (v : Word) : (s.setPc v).dev = s.dev := rfl
@[simp] theorem setPc_sub (v : Word) : (s.setPc v).sub = s.sub := rfl
@[simp] theorem setPc_link (v : Word) : (s.setPc v).link = s.link := rfl
@[simp] theorem setPc_pcm (v : Word) : (s.setPc v).pcm = s.pcm := rfl
@[simp] theorem setPc_model (v : Word) : (s.setPc v).model = s.model := rfl

@[simp] theorem setCp_params (v : Byte) : (s.setCp v).params = s.params := rfl
@[simp] theorem setCp_cpu_regs (v : Byte) : (s.setCp v).cpu.regs = s.cpu.regs := rfl
@[simp] theorem setCp_cpu_pc (v : Byte) : (s.setCp v).cpu.pc = s.cpu.pc := rfl
@[simp] theorem setCp_cpu_sr (v : Byte) : (s.setCp v).cpu.sr = s.cpu.sr := rfl
@[simp] theorem setCp_cpu_cp (v : Byte) : (s.setCp v).cpu.cp = v := rfl
@[simp] theorem setCp_cpu_dp (v : Byte) : (s.setCp v).cpu.dp = s.cpu.dp := rfl
@[simp] theorem setCp_cpu_ep (v : Byte) : (s.setCp v).cpu.ep = s.cpu.ep := rfl
@[simp] theorem setCp_cpu_tp (v : Byte) : (s.setCp v).cpu.tp = s.cpu.tp := rfl
@[simp] theorem setCp_cpu_br (v : Byte) : (s.setCp v).cpu.br = s.cpu.br := rfl
@[simp] theorem setCp_cpu_cycles (v : Byte) : (s.setCp v).cpu.cycles = s.cpu.cycles := rfl
@[simp] theorem setCp_cpu_sleep (v : Byte) : (s.setCp v).cpu.sleep = s.cpu.sleep := rfl
@[simp] theorem setCp_cpu_suppress (v : Byte) : (s.setCp v).cpu.suppress = s.cpu.suppress := rfl
@[simp] theorem setCp_cpu_excSlot (v : Byte) : (s.setCp v).cpu.excSlot = s.cpu.excSlot := rfl
@[simp] theorem setCp_cpu_trapPending (v : Byte) : (s.setCp v).cpu.trapPending = s.cpu.trapPending := rfl
@[simp] theorem setCp_cpu_intPending (v : Byte) : (s.setCp v).cpu.intPending = s.cpu.intPending := rfl
@[simp] theorem setCp_mem (v : Byte) : (s.setCp v).mem = s.mem := rfl
@[simp] theorem setCp_dev (v : Byte) : (s.setCp v).dev = s.dev := rfl
@[simp] theorem setCp_sub (v : Byte) : (s.setCp v).sub = s.sub := rfl
@[simp] theorem setCp_link (v : Byte) : (s.setCp v).link = s.link := rfl
@[simp] theorem setCp_pcm (v : Byte) : (s.setCp v).pcm = s.pcm := rfl
@[simp] theorem setCp_model (v : Byte) : (s.setCp v).model = s.model := rfl

@[simp] theorem setNzvc_params (f : Nzvc) : (s.setNzvc f).params = s.params := rfl
@[simp] theorem setNzvc_cpu_regs (f : Nzvc) : (s.setNzvc f).cpu.regs = s.cpu.regs := rfl
@[simp] theorem setNzvc_cpu_pc (f : Nzvc) : (s.setNzvc f).cpu.pc = s.cpu.pc := rfl
@[simp] theorem setNzvc_cpu_sr (f : Nzvc) : (s.setNzvc f).cpu.sr = (s.cpu.sr &&& 0xFFF0#16) ||| f.bits := rfl
@[simp] theorem setNzvc_cpu_cp (f : Nzvc) : (s.setNzvc f).cpu.cp = s.cpu.cp := rfl
@[simp] theorem setNzvc_cpu_dp (f : Nzvc) : (s.setNzvc f).cpu.dp = s.cpu.dp := rfl
@[simp] theorem setNzvc_cpu_ep (f : Nzvc) : (s.setNzvc f).cpu.ep = s.cpu.ep := rfl
@[simp] theorem setNzvc_cpu_tp (f : Nzvc) : (s.setNzvc f).cpu.tp = s.cpu.tp := rfl
@[simp] theorem setNzvc_cpu_br (f : Nzvc) : (s.setNzvc f).cpu.br = s.cpu.br := rfl
@[simp] theorem setNzvc_cpu_cycles (f : Nzvc) : (s.setNzvc f).cpu.cycles = s.cpu.cycles := rfl
@[simp] theorem setNzvc_cpu_sleep (f : Nzvc) : (s.setNzvc f).cpu.sleep = s.cpu.sleep := rfl
@[simp] theorem setNzvc_cpu_suppress (f : Nzvc) : (s.setNzvc f).cpu.suppress = s.cpu.suppress := rfl
@[simp] theorem setNzvc_cpu_excSlot (f : Nzvc) : (s.setNzvc f).cpu.excSlot = s.cpu.excSlot := rfl
@[simp] theorem setNzvc_cpu_trapPending (f : Nzvc) : (s.setNzvc f).cpu.trapPending = s.cpu.trapPending := rfl
@[simp] theorem setNzvc_cpu_intPending (f : Nzvc) : (s.setNzvc f).cpu.intPending = s.cpu.intPending := rfl
@[simp] theorem setNzvc_mem (f : Nzvc) : (s.setNzvc f).mem = s.mem := rfl
@[simp] theorem setNzvc_dev (f : Nzvc) : (s.setNzvc f).dev = s.dev := rfl
@[simp] theorem setNzvc_sub (f : Nzvc) : (s.setNzvc f).sub = s.sub := rfl
@[simp] theorem setNzvc_link (f : Nzvc) : (s.setNzvc f).link = s.link := rfl
@[simp] theorem setNzvc_pcm (f : Nzvc) : (s.setNzvc f).pcm = s.pcm := rfl
@[simp] theorem setNzvc_model (f : Nzvc) : (s.setNzvc f).model = s.model := rfl

@[simp] theorem setSr_params (v : Word) : (s.setSr v).params = s.params := rfl
@[simp] theorem setSr_cpu_regs (v : Word) : (s.setSr v).cpu.regs = s.cpu.regs := rfl
@[simp] theorem setSr_cpu_pc (v : Word) : (s.setSr v).cpu.pc = s.cpu.pc := rfl
@[simp] theorem setSr_cpu_sr (v : Word) : (s.setSr v).cpu.sr = v &&& 0x870F#16 := rfl
@[simp] theorem setSr_cpu_cp (v : Word) : (s.setSr v).cpu.cp = s.cpu.cp := rfl
@[simp] theorem setSr_cpu_dp (v : Word) : (s.setSr v).cpu.dp = s.cpu.dp := rfl
@[simp] theorem setSr_cpu_ep (v : Word) : (s.setSr v).cpu.ep = s.cpu.ep := rfl
@[simp] theorem setSr_cpu_tp (v : Word) : (s.setSr v).cpu.tp = s.cpu.tp := rfl
@[simp] theorem setSr_cpu_br (v : Word) : (s.setSr v).cpu.br = s.cpu.br := rfl
@[simp] theorem setSr_cpu_cycles (v : Word) : (s.setSr v).cpu.cycles = s.cpu.cycles := rfl
@[simp] theorem setSr_cpu_sleep (v : Word) : (s.setSr v).cpu.sleep = s.cpu.sleep := rfl
@[simp] theorem setSr_cpu_suppress (v : Word) : (s.setSr v).cpu.suppress = s.cpu.suppress := rfl
@[simp] theorem setSr_cpu_excSlot (v : Word) : (s.setSr v).cpu.excSlot = s.cpu.excSlot := rfl
@[simp] theorem setSr_cpu_trapPending (v : Word) : (s.setSr v).cpu.trapPending = s.cpu.trapPending := rfl
@[simp] theorem setSr_cpu_intPending (v : Word) : (s.setSr v).cpu.intPending = s.cpu.intPending := rfl
@[simp] theorem setSr_mem (v : Word) : (s.setSr v).mem = s.mem := rfl
@[simp] theorem setSr_dev (v : Word) : (s.setSr v).dev = s.dev := rfl
@[simp] theorem setSr_sub (v : Word) : (s.setSr v).sub = s.sub := rfl
@[simp] theorem setSr_link (v : Word) : (s.setSr v).link = s.link := rfl
@[simp] theorem setSr_pcm (v : Word) : (s.setSr v).pcm = s.pcm := rfl
@[simp] theorem setSr_model (v : Word) : (s.setSr v).model = s.model := rfl

@[simp] theorem setCcr_params (b : Byte) : (s.setCcr b).params = s.params := rfl
@[simp] theorem setCcr_cpu_regs (b : Byte) : (s.setCcr b).cpu.regs = s.cpu.regs := rfl
@[simp] theorem setCcr_cpu_pc (b : Byte) : (s.setCcr b).cpu.pc = s.cpu.pc := rfl
@[simp] theorem setCcr_cpu_sr (b : Byte) : (s.setCcr b).cpu.sr = (s.cpu.sr &&& 0xFF00#16) ||| (b.setWidth 16 &&& 0x000F#16) := rfl
@[simp] theorem setCcr_cpu_cp (b : Byte) : (s.setCcr b).cpu.cp = s.cpu.cp := rfl
@[simp] theorem setCcr_cpu_dp (b : Byte) : (s.setCcr b).cpu.dp = s.cpu.dp := rfl
@[simp] theorem setCcr_cpu_ep (b : Byte) : (s.setCcr b).cpu.ep = s.cpu.ep := rfl
@[simp] theorem setCcr_cpu_tp (b : Byte) : (s.setCcr b).cpu.tp = s.cpu.tp := rfl
@[simp] theorem setCcr_cpu_br (b : Byte) : (s.setCcr b).cpu.br = s.cpu.br := rfl
@[simp] theorem setCcr_cpu_cycles (b : Byte) : (s.setCcr b).cpu.cycles = s.cpu.cycles := rfl
@[simp] theorem setCcr_cpu_sleep (b : Byte) : (s.setCcr b).cpu.sleep = s.cpu.sleep := rfl
@[simp] theorem setCcr_cpu_suppress (b : Byte) : (s.setCcr b).cpu.suppress = s.cpu.suppress := rfl
@[simp] theorem setCcr_cpu_excSlot (b : Byte) : (s.setCcr b).cpu.excSlot = s.cpu.excSlot := rfl
@[simp] theorem setCcr_cpu_trapPending (b : Byte) : (s.setCcr b).cpu.trapPending = s.cpu.trapPending := rfl
@[simp] theorem setCcr_cpu_intPending (b : Byte) : (s.setCcr b).cpu.intPending = s.cpu.intPending := rfl
@[simp] theorem setCcr_mem (b : Byte) : (s.setCcr b).mem = s.mem := rfl
@[simp] theorem setCcr_dev (b : Byte) : (s.setCcr b).dev = s.dev := rfl
@[simp] theorem setCcr_sub (b : Byte) : (s.setCcr b).sub = s.sub := rfl
@[simp] theorem setCcr_link (b : Byte) : (s.setCcr b).link = s.link := rfl
@[simp] theorem setCcr_pcm (b : Byte) : (s.setCcr b).pcm = s.pcm := rfl
@[simp] theorem setCcr_model (b : Byte) : (s.setCcr b).model = s.model := rfl

@[simp] theorem clearT_params : s.clearT.params = s.params := rfl
@[simp] theorem clearT_cpu_regs : s.clearT.cpu.regs = s.cpu.regs := rfl
@[simp] theorem clearT_cpu_pc : s.clearT.cpu.pc = s.cpu.pc := rfl
@[simp] theorem clearT_cpu_sr : s.clearT.cpu.sr = s.cpu.sr &&& 0x7FFF#16 := rfl
@[simp] theorem clearT_cpu_cp : s.clearT.cpu.cp = s.cpu.cp := rfl
@[simp] theorem clearT_cpu_dp : s.clearT.cpu.dp = s.cpu.dp := rfl
@[simp] theorem clearT_cpu_ep : s.clearT.cpu.ep = s.cpu.ep := rfl
@[simp] theorem clearT_cpu_tp : s.clearT.cpu.tp = s.cpu.tp := rfl
@[simp] theorem clearT_cpu_br : s.clearT.cpu.br = s.cpu.br := rfl
@[simp] theorem clearT_cpu_cycles : s.clearT.cpu.cycles = s.cpu.cycles := rfl
@[simp] theorem clearT_cpu_sleep : s.clearT.cpu.sleep = s.cpu.sleep := rfl
@[simp] theorem clearT_cpu_suppress : s.clearT.cpu.suppress = s.cpu.suppress := rfl
@[simp] theorem clearT_cpu_excSlot : s.clearT.cpu.excSlot = s.cpu.excSlot := rfl
@[simp] theorem clearT_cpu_trapPending : s.clearT.cpu.trapPending = s.cpu.trapPending := rfl
@[simp] theorem clearT_cpu_intPending : s.clearT.cpu.intPending = s.cpu.intPending := rfl
@[simp] theorem clearT_mem : s.clearT.mem = s.mem := rfl
@[simp] theorem clearT_dev : s.clearT.dev = s.dev := rfl
@[simp] theorem clearT_sub : s.clearT.sub = s.sub := rfl
@[simp] theorem clearT_link : s.clearT.link = s.link := rfl
@[simp] theorem clearT_pcm : s.clearT.pcm = s.pcm := rfl
@[simp] theorem clearT_model : s.clearT.model = s.model := rfl

@[simp] theorem setI_params (l : BitVec 3) : (s.setI l).params = s.params := rfl
@[simp] theorem setI_cpu_regs (l : BitVec 3) : (s.setI l).cpu.regs = s.cpu.regs := rfl
@[simp] theorem setI_cpu_pc (l : BitVec 3) : (s.setI l).cpu.pc = s.cpu.pc := rfl
@[simp] theorem setI_cpu_sr (l : BitVec 3) : (s.setI l).cpu.sr = (s.cpu.sr &&& 0xF8FF#16) ||| (l.setWidth 16 <<< 8) := rfl
@[simp] theorem setI_cpu_cp (l : BitVec 3) : (s.setI l).cpu.cp = s.cpu.cp := rfl
@[simp] theorem setI_cpu_dp (l : BitVec 3) : (s.setI l).cpu.dp = s.cpu.dp := rfl
@[simp] theorem setI_cpu_ep (l : BitVec 3) : (s.setI l).cpu.ep = s.cpu.ep := rfl
@[simp] theorem setI_cpu_tp (l : BitVec 3) : (s.setI l).cpu.tp = s.cpu.tp := rfl
@[simp] theorem setI_cpu_br (l : BitVec 3) : (s.setI l).cpu.br = s.cpu.br := rfl
@[simp] theorem setI_cpu_cycles (l : BitVec 3) : (s.setI l).cpu.cycles = s.cpu.cycles := rfl
@[simp] theorem setI_cpu_sleep (l : BitVec 3) : (s.setI l).cpu.sleep = s.cpu.sleep := rfl
@[simp] theorem setI_cpu_suppress (l : BitVec 3) : (s.setI l).cpu.suppress = s.cpu.suppress := rfl
@[simp] theorem setI_cpu_excSlot (l : BitVec 3) : (s.setI l).cpu.excSlot = s.cpu.excSlot := rfl
@[simp] theorem setI_cpu_trapPending (l : BitVec 3) : (s.setI l).cpu.trapPending = s.cpu.trapPending := rfl
@[simp] theorem setI_cpu_intPending (l : BitVec 3) : (s.setI l).cpu.intPending = s.cpu.intPending := rfl
@[simp] theorem setI_mem (l : BitVec 3) : (s.setI l).mem = s.mem := rfl
@[simp] theorem setI_dev (l : BitVec 3) : (s.setI l).dev = s.dev := rfl
@[simp] theorem setI_sub (l : BitVec 3) : (s.setI l).sub = s.sub := rfl
@[simp] theorem setI_link (l : BitVec 3) : (s.setI l).link = s.link := rfl
@[simp] theorem setI_pcm (l : BitVec 3) : (s.setI l).pcm = s.pcm := rfl
@[simp] theorem setI_model (l : BitVec 3) : (s.setI l).model = s.model := rfl

@[simp] theorem requestException_params (k : ExcKind) : (requestException k s).params = s.params := rfl
@[simp] theorem requestException_cpu_regs (k : ExcKind) : (requestException k s).cpu.regs = s.cpu.regs := rfl
@[simp] theorem requestException_cpu_pc (k : ExcKind) : (requestException k s).cpu.pc = s.cpu.pc := rfl
@[simp] theorem requestException_cpu_sr (k : ExcKind) : (requestException k s).cpu.sr = s.cpu.sr := rfl
@[simp] theorem requestException_cpu_cp (k : ExcKind) : (requestException k s).cpu.cp = s.cpu.cp := rfl
@[simp] theorem requestException_cpu_dp (k : ExcKind) : (requestException k s).cpu.dp = s.cpu.dp := rfl
@[simp] theorem requestException_cpu_ep (k : ExcKind) : (requestException k s).cpu.ep = s.cpu.ep := rfl
@[simp] theorem requestException_cpu_tp (k : ExcKind) : (requestException k s).cpu.tp = s.cpu.tp := rfl
@[simp] theorem requestException_cpu_br (k : ExcKind) : (requestException k s).cpu.br = s.cpu.br := rfl
@[simp] theorem requestException_cpu_cycles (k : ExcKind) : (requestException k s).cpu.cycles = s.cpu.cycles := rfl
@[simp] theorem requestException_cpu_sleep (k : ExcKind) : (requestException k s).cpu.sleep = s.cpu.sleep := rfl
@[simp] theorem requestException_cpu_suppress (k : ExcKind) : (requestException k s).cpu.suppress = s.cpu.suppress := rfl
@[simp] theorem requestException_cpu_excSlot (k : ExcKind) : (requestException k s).cpu.excSlot = slotAfter k s.cpu.excSlot := rfl
@[simp] theorem requestException_cpu_trapPending (k : ExcKind) : (requestException k s).cpu.trapPending = s.cpu.trapPending := rfl
@[simp] theorem requestException_cpu_intPending (k : ExcKind) : (requestException k s).cpu.intPending = s.cpu.intPending := rfl
@[simp] theorem requestException_mem (k : ExcKind) : (requestException k s).mem = s.mem := rfl
@[simp] theorem requestException_dev (k : ExcKind) : (requestException k s).dev = s.dev := rfl
@[simp] theorem requestException_sub (k : ExcKind) : (requestException k s).sub = s.sub := rfl
@[simp] theorem requestException_link (k : ExcKind) : (requestException k s).link = s.link := rfl
@[simp] theorem requestException_pcm (k : ExcKind) : (requestException k s).pcm = s.pcm := rfl
@[simp] theorem requestException_model (k : ExcKind) : (requestException k s).model = s.model := rfl

@[simp] theorem requestTrap_params (n : BitVec 4) : (requestTrap n s).params = s.params := rfl
@[simp] theorem requestTrap_cpu_regs (n : BitVec 4) : (requestTrap n s).cpu.regs = s.cpu.regs := rfl
@[simp] theorem requestTrap_cpu_pc (n : BitVec 4) : (requestTrap n s).cpu.pc = s.cpu.pc := rfl
@[simp] theorem requestTrap_cpu_sr (n : BitVec 4) : (requestTrap n s).cpu.sr = s.cpu.sr := rfl
@[simp] theorem requestTrap_cpu_cp (n : BitVec 4) : (requestTrap n s).cpu.cp = s.cpu.cp := rfl
@[simp] theorem requestTrap_cpu_dp (n : BitVec 4) : (requestTrap n s).cpu.dp = s.cpu.dp := rfl
@[simp] theorem requestTrap_cpu_ep (n : BitVec 4) : (requestTrap n s).cpu.ep = s.cpu.ep := rfl
@[simp] theorem requestTrap_cpu_tp (n : BitVec 4) : (requestTrap n s).cpu.tp = s.cpu.tp := rfl
@[simp] theorem requestTrap_cpu_br (n : BitVec 4) : (requestTrap n s).cpu.br = s.cpu.br := rfl
@[simp] theorem requestTrap_cpu_cycles (n : BitVec 4) : (requestTrap n s).cpu.cycles = s.cpu.cycles := rfl
@[simp] theorem requestTrap_cpu_sleep (n : BitVec 4) : (requestTrap n s).cpu.sleep = s.cpu.sleep := rfl
@[simp] theorem requestTrap_cpu_suppress (n : BitVec 4) : (requestTrap n s).cpu.suppress = s.cpu.suppress := rfl
@[simp] theorem requestTrap_cpu_excSlot (n : BitVec 4) : (requestTrap n s).cpu.excSlot = s.cpu.excSlot := rfl
@[simp] theorem requestTrap_cpu_trapPending (n : BitVec 4) : (requestTrap n s).cpu.trapPending = s.cpu.trapPending ||| (1#16 <<< n.toNat) := rfl
@[simp] theorem requestTrap_cpu_intPending (n : BitVec 4) : (requestTrap n s).cpu.intPending = s.cpu.intPending := rfl
@[simp] theorem requestTrap_mem (n : BitVec 4) : (requestTrap n s).mem = s.mem := rfl
@[simp] theorem requestTrap_dev (n : BitVec 4) : (requestTrap n s).dev = s.dev := rfl
@[simp] theorem requestTrap_sub (n : BitVec 4) : (requestTrap n s).sub = s.sub := rfl
@[simp] theorem requestTrap_link (n : BitVec 4) : (requestTrap n s).link = s.link := rfl
@[simp] theorem requestTrap_pcm (n : BitVec 4) : (requestTrap n s).pcm = s.pcm := rfl
@[simp] theorem requestTrap_model (n : BitVec 4) : (requestTrap n s).model = s.model := rfl

@[simp] theorem setLine_params (src : Source) (b : Bool) : (setLine src b s).params = s.params := rfl
@[simp] theorem setLine_cpu_regs (src : Source) (b : Bool) : (setLine src b s).cpu.regs = s.cpu.regs := rfl
@[simp] theorem setLine_cpu_pc (src : Source) (b : Bool) : (setLine src b s).cpu.pc = s.cpu.pc := rfl
@[simp] theorem setLine_cpu_sr (src : Source) (b : Bool) : (setLine src b s).cpu.sr = s.cpu.sr := rfl
@[simp] theorem setLine_cpu_cp (src : Source) (b : Bool) : (setLine src b s).cpu.cp = s.cpu.cp := rfl
@[simp] theorem setLine_cpu_dp (src : Source) (b : Bool) : (setLine src b s).cpu.dp = s.cpu.dp := rfl
@[simp] theorem setLine_cpu_ep (src : Source) (b : Bool) : (setLine src b s).cpu.ep = s.cpu.ep := rfl
@[simp] theorem setLine_cpu_tp (src : Source) (b : Bool) : (setLine src b s).cpu.tp = s.cpu.tp := rfl
@[simp] theorem setLine_cpu_br (src : Source) (b : Bool) : (setLine src b s).cpu.br = s.cpu.br := rfl
@[simp] theorem setLine_cpu_cycles (src : Source) (b : Bool) : (setLine src b s).cpu.cycles = s.cpu.cycles := rfl
@[simp] theorem setLine_cpu_sleep (src : Source) (b : Bool) : (setLine src b s).cpu.sleep = s.cpu.sleep := rfl
@[simp] theorem setLine_cpu_suppress (src : Source) (b : Bool) : (setLine src b s).cpu.suppress = s.cpu.suppress := rfl
@[simp] theorem setLine_cpu_excSlot (src : Source) (b : Bool) : (setLine src b s).cpu.excSlot = s.cpu.excSlot := rfl
@[simp] theorem setLine_cpu_trapPending (src : Source) (b : Bool) : (setLine src b s).cpu.trapPending = s.cpu.trapPending := rfl
@[simp] theorem setLine_cpu_intPending (src : Source) (b : Bool) : (setLine src b s).cpu.intPending = pendingWith src b s.cpu.intPending := rfl
@[simp] theorem setLine_mem (src : Source) (b : Bool) : (setLine src b s).mem = s.mem := rfl
@[simp] theorem setLine_dev (src : Source) (b : Bool) : (setLine src b s).dev = s.dev := rfl
@[simp] theorem setLine_sub (src : Source) (b : Bool) : (setLine src b s).sub = s.sub := rfl
@[simp] theorem setLine_link (src : Source) (b : Bool) : (setLine src b s).link = s.link := rfl
@[simp] theorem setLine_pcm (src : Source) (b : Bool) : (setLine src b s).pcm = s.pcm := rfl
@[simp] theorem setLine_model (src : Source) (b : Bool) : (setLine src b s).model = s.model := rfl

@[simp] theorem suppressCheck_params : s.suppressCheck.params = s.params := rfl
@[simp] theorem suppressCheck_cpu_regs : s.suppressCheck.cpu.regs = s.cpu.regs := rfl
@[simp] theorem suppressCheck_cpu_pc : s.suppressCheck.cpu.pc = s.cpu.pc := rfl
@[simp] theorem suppressCheck_cpu_sr : s.suppressCheck.cpu.sr = s.cpu.sr := rfl
@[simp] theorem suppressCheck_cpu_cp : s.suppressCheck.cpu.cp = s.cpu.cp := rfl
@[simp] theorem suppressCheck_cpu_dp : s.suppressCheck.cpu.dp = s.cpu.dp := rfl
@[simp] theorem suppressCheck_cpu_ep : s.suppressCheck.cpu.ep = s.cpu.ep := rfl
@[simp] theorem suppressCheck_cpu_tp : s.suppressCheck.cpu.tp = s.cpu.tp := rfl
@[simp] theorem suppressCheck_cpu_br : s.suppressCheck.cpu.br = s.cpu.br := rfl
@[simp] theorem suppressCheck_cpu_cycles : s.suppressCheck.cpu.cycles = s.cpu.cycles := rfl
@[simp] theorem suppressCheck_cpu_sleep : s.suppressCheck.cpu.sleep = s.cpu.sleep := rfl
@[simp] theorem suppressCheck_cpu_suppress : s.suppressCheck.cpu.suppress = true := rfl
@[simp] theorem suppressCheck_cpu_excSlot : s.suppressCheck.cpu.excSlot = s.cpu.excSlot := rfl
@[simp] theorem suppressCheck_cpu_trapPending : s.suppressCheck.cpu.trapPending = s.cpu.trapPending := rfl
@[simp] theorem suppressCheck_cpu_intPending : s.suppressCheck.cpu.intPending = s.cpu.intPending := rfl
@[simp] theorem suppressCheck_mem : s.suppressCheck.mem = s.mem := rfl
@[simp] theorem suppressCheck_dev : s.suppressCheck.dev = s.dev := rfl
@[simp] theorem suppressCheck_sub : s.suppressCheck.sub = s.sub := rfl
@[simp] theorem suppressCheck_link : s.suppressCheck.link = s.link := rfl
@[simp] theorem suppressCheck_pcm : s.suppressCheck.pcm = s.pcm := rfl
@[simp] theorem suppressCheck_model : s.suppressCheck.model = s.model := rfl

@[simp] theorem drawn_params (n : Nat) : (s.drawn n).params = s.params := rfl
@[simp] theorem drawn_cpu (n : Nat) : (s.drawn n).cpu = s.cpu := rfl
@[simp] theorem drawn_mem (n : Nat) : (s.drawn n).mem = s.mem := rfl
@[simp] theorem drawn_dev (n : Nat) : (s.drawn n).dev = s.dev := rfl
@[simp] theorem drawn_sub (n : Nat) : (s.drawn n).sub = s.sub := rfl
@[simp] theorem drawn_link (n : Nat) : (s.drawn n).link = s.link := rfl
@[simp] theorem drawn_pcm (n : Nat) : (s.drawn n).pcm = s.pcm := rfl
@[simp] theorem drawn_model_draws (n : Nat) : (s.drawn n).model.draws = s.model.draws + n := rfl
@[simp] theorem drawn_model_hostIn (n : Nat) : (s.drawn n).model.hostIn = s.model.hostIn := rfl
@[simp] theorem drawn_model_hostOut (n : Nat) : (s.drawn n).model.hostOut = s.model.hostOut := rfl
@[simp] theorem drawn_model_phase (n : Nat) : (s.drawn n).model.phase = s.model.phase := rfl

@[simp] theorem emit_params (o : HostOutput) : (s.emit o).params = s.params := rfl
@[simp] theorem emit_cpu (o : HostOutput) : (s.emit o).cpu = s.cpu := rfl
@[simp] theorem emit_mem (o : HostOutput) : (s.emit o).mem = s.mem := rfl
@[simp] theorem emit_dev (o : HostOutput) : (s.emit o).dev = s.dev := rfl
@[simp] theorem emit_sub (o : HostOutput) : (s.emit o).sub = s.sub := rfl
@[simp] theorem emit_link (o : HostOutput) : (s.emit o).link = s.link := rfl
@[simp] theorem emit_pcm (o : HostOutput) : (s.emit o).pcm = s.pcm := rfl
@[simp] theorem emit_model_draws (o : HostOutput) : (s.emit o).model.draws = s.model.draws := rfl
@[simp] theorem emit_model_hostIn (o : HostOutput) : (s.emit o).model.hostIn = s.model.hostIn := rfl
@[simp] theorem emit_model_hostOut (o : HostOutput) : (s.emit o).model.hostOut = o :: s.model.hostOut := rfl
@[simp] theorem emit_model_phase (o : HostOutput) : (s.emit o).model.phase = s.model.phase := rfl

@[simp] theorem setA_params (v : Byte) : (s.setA v).params = s.params := rfl
@[simp] theorem setA_cpu (v : Byte) : (s.setA v).cpu = s.cpu := rfl
@[simp] theorem setA_mem (v : Byte) : (s.setA v).mem = s.mem := rfl
@[simp] theorem setA_dev (v : Byte) : (s.setA v).dev = s.dev := rfl
@[simp] theorem setA_sub_a (v : Byte) : (s.setA v).sub.a = v := rfl
@[simp] theorem setA_sub_x (v : Byte) : (s.setA v).sub.x = s.sub.x := rfl
@[simp] theorem setA_sub_y (v : Byte) : (s.setA v).sub.y = s.sub.y := rfl
@[simp] theorem setA_sub_s (v : Byte) : (s.setA v).sub.s = s.sub.s := rfl
@[simp] theorem setA_sub_p (v : Byte) : (s.setA v).sub.p = s.sub.p := rfl
@[simp] theorem setA_sub_spc (v : Byte) : (s.setA v).sub.spc = s.sub.spc := rfl
@[simp] theorem setA_sub_cycles (v : Byte) : (s.setA v).sub.cycles = s.sub.cycles := rfl
@[simp] theorem setA_sub_rom (v : Byte) : (s.setA v).sub.rom = s.sub.rom := rfl
@[simp] theorem setA_sub_ram (v : Byte) : (s.setA v).sub.ram = s.sub.ram := rfl
@[simp] theorem setA_link (v : Byte) : (s.setA v).link = s.link := rfl
@[simp] theorem setA_pcm (v : Byte) : (s.setA v).pcm = s.pcm := rfl
@[simp] theorem setA_model (v : Byte) : (s.setA v).model = s.model := rfl

@[simp] theorem setX_params (v : Byte) : (s.setX v).params = s.params := rfl
@[simp] theorem setX_cpu (v : Byte) : (s.setX v).cpu = s.cpu := rfl
@[simp] theorem setX_mem (v : Byte) : (s.setX v).mem = s.mem := rfl
@[simp] theorem setX_dev (v : Byte) : (s.setX v).dev = s.dev := rfl
@[simp] theorem setX_sub_a (v : Byte) : (s.setX v).sub.a = s.sub.a := rfl
@[simp] theorem setX_sub_x (v : Byte) : (s.setX v).sub.x = v := rfl
@[simp] theorem setX_sub_y (v : Byte) : (s.setX v).sub.y = s.sub.y := rfl
@[simp] theorem setX_sub_s (v : Byte) : (s.setX v).sub.s = s.sub.s := rfl
@[simp] theorem setX_sub_p (v : Byte) : (s.setX v).sub.p = s.sub.p := rfl
@[simp] theorem setX_sub_spc (v : Byte) : (s.setX v).sub.spc = s.sub.spc := rfl
@[simp] theorem setX_sub_cycles (v : Byte) : (s.setX v).sub.cycles = s.sub.cycles := rfl
@[simp] theorem setX_sub_rom (v : Byte) : (s.setX v).sub.rom = s.sub.rom := rfl
@[simp] theorem setX_sub_ram (v : Byte) : (s.setX v).sub.ram = s.sub.ram := rfl
@[simp] theorem setX_link (v : Byte) : (s.setX v).link = s.link := rfl
@[simp] theorem setX_pcm (v : Byte) : (s.setX v).pcm = s.pcm := rfl
@[simp] theorem setX_model (v : Byte) : (s.setX v).model = s.model := rfl

@[simp] theorem setY_params (v : Byte) : (s.setY v).params = s.params := rfl
@[simp] theorem setY_cpu (v : Byte) : (s.setY v).cpu = s.cpu := rfl
@[simp] theorem setY_mem (v : Byte) : (s.setY v).mem = s.mem := rfl
@[simp] theorem setY_dev (v : Byte) : (s.setY v).dev = s.dev := rfl
@[simp] theorem setY_sub_a (v : Byte) : (s.setY v).sub.a = s.sub.a := rfl
@[simp] theorem setY_sub_x (v : Byte) : (s.setY v).sub.x = s.sub.x := rfl
@[simp] theorem setY_sub_y (v : Byte) : (s.setY v).sub.y = v := rfl
@[simp] theorem setY_sub_s (v : Byte) : (s.setY v).sub.s = s.sub.s := rfl
@[simp] theorem setY_sub_p (v : Byte) : (s.setY v).sub.p = s.sub.p := rfl
@[simp] theorem setY_sub_spc (v : Byte) : (s.setY v).sub.spc = s.sub.spc := rfl
@[simp] theorem setY_sub_cycles (v : Byte) : (s.setY v).sub.cycles = s.sub.cycles := rfl
@[simp] theorem setY_sub_rom (v : Byte) : (s.setY v).sub.rom = s.sub.rom := rfl
@[simp] theorem setY_sub_ram (v : Byte) : (s.setY v).sub.ram = s.sub.ram := rfl
@[simp] theorem setY_link (v : Byte) : (s.setY v).link = s.link := rfl
@[simp] theorem setY_pcm (v : Byte) : (s.setY v).pcm = s.pcm := rfl
@[simp] theorem setY_model (v : Byte) : (s.setY v).model = s.model := rfl

@[simp] theorem setS_params (v : Byte) : (s.setS v).params = s.params := rfl
@[simp] theorem setS_cpu (v : Byte) : (s.setS v).cpu = s.cpu := rfl
@[simp] theorem setS_mem (v : Byte) : (s.setS v).mem = s.mem := rfl
@[simp] theorem setS_dev (v : Byte) : (s.setS v).dev = s.dev := rfl
@[simp] theorem setS_sub_a (v : Byte) : (s.setS v).sub.a = s.sub.a := rfl
@[simp] theorem setS_sub_x (v : Byte) : (s.setS v).sub.x = s.sub.x := rfl
@[simp] theorem setS_sub_y (v : Byte) : (s.setS v).sub.y = s.sub.y := rfl
@[simp] theorem setS_sub_s (v : Byte) : (s.setS v).sub.s = v := rfl
@[simp] theorem setS_sub_p (v : Byte) : (s.setS v).sub.p = s.sub.p := rfl
@[simp] theorem setS_sub_spc (v : Byte) : (s.setS v).sub.spc = s.sub.spc := rfl
@[simp] theorem setS_sub_cycles (v : Byte) : (s.setS v).sub.cycles = s.sub.cycles := rfl
@[simp] theorem setS_sub_rom (v : Byte) : (s.setS v).sub.rom = s.sub.rom := rfl
@[simp] theorem setS_sub_ram (v : Byte) : (s.setS v).sub.ram = s.sub.ram := rfl
@[simp] theorem setS_link (v : Byte) : (s.setS v).link = s.link := rfl
@[simp] theorem setS_pcm (v : Byte) : (s.setS v).pcm = s.pcm := rfl
@[simp] theorem setS_model (v : Byte) : (s.setS v).model = s.model := rfl

@[simp] theorem setP_params (v : Byte) : (s.setP v).params = s.params := rfl
@[simp] theorem setP_cpu (v : Byte) : (s.setP v).cpu = s.cpu := rfl
@[simp] theorem setP_mem (v : Byte) : (s.setP v).mem = s.mem := rfl
@[simp] theorem setP_dev (v : Byte) : (s.setP v).dev = s.dev := rfl
@[simp] theorem setP_sub_a (v : Byte) : (s.setP v).sub.a = s.sub.a := rfl
@[simp] theorem setP_sub_x (v : Byte) : (s.setP v).sub.x = s.sub.x := rfl
@[simp] theorem setP_sub_y (v : Byte) : (s.setP v).sub.y = s.sub.y := rfl
@[simp] theorem setP_sub_s (v : Byte) : (s.setP v).sub.s = s.sub.s := rfl
@[simp] theorem setP_sub_p (v : Byte) : (s.setP v).sub.p = v := rfl
@[simp] theorem setP_sub_spc (v : Byte) : (s.setP v).sub.spc = s.sub.spc := rfl
@[simp] theorem setP_sub_cycles (v : Byte) : (s.setP v).sub.cycles = s.sub.cycles := rfl
@[simp] theorem setP_sub_rom (v : Byte) : (s.setP v).sub.rom = s.sub.rom := rfl
@[simp] theorem setP_sub_ram (v : Byte) : (s.setP v).sub.ram = s.sub.ram := rfl
@[simp] theorem setP_link (v : Byte) : (s.setP v).link = s.link := rfl
@[simp] theorem setP_pcm (v : Byte) : (s.setP v).pcm = s.pcm := rfl
@[simp] theorem setP_model (v : Byte) : (s.setP v).model = s.model := rfl

@[simp] theorem setSpc_params (v : Word) : (s.setSpc v).params = s.params := rfl
@[simp] theorem setSpc_cpu (v : Word) : (s.setSpc v).cpu = s.cpu := rfl
@[simp] theorem setSpc_mem (v : Word) : (s.setSpc v).mem = s.mem := rfl
@[simp] theorem setSpc_dev (v : Word) : (s.setSpc v).dev = s.dev := rfl
@[simp] theorem setSpc_sub_a (v : Word) : (s.setSpc v).sub.a = s.sub.a := rfl
@[simp] theorem setSpc_sub_x (v : Word) : (s.setSpc v).sub.x = s.sub.x := rfl
@[simp] theorem setSpc_sub_y (v : Word) : (s.setSpc v).sub.y = s.sub.y := rfl
@[simp] theorem setSpc_sub_s (v : Word) : (s.setSpc v).sub.s = s.sub.s := rfl
@[simp] theorem setSpc_sub_p (v : Word) : (s.setSpc v).sub.p = s.sub.p := rfl
@[simp] theorem setSpc_sub_spc (v : Word) : (s.setSpc v).sub.spc = v := rfl
@[simp] theorem setSpc_sub_cycles (v : Word) : (s.setSpc v).sub.cycles = s.sub.cycles := rfl
@[simp] theorem setSpc_sub_rom (v : Word) : (s.setSpc v).sub.rom = s.sub.rom := rfl
@[simp] theorem setSpc_sub_ram (v : Word) : (s.setSpc v).sub.ram = s.sub.ram := rfl
@[simp] theorem setSpc_link (v : Word) : (s.setSpc v).link = s.link := rfl
@[simp] theorem setSpc_pcm (v : Word) : (s.setSpc v).pcm = s.pcm := rfl
@[simp] theorem setSpc_model (v : Word) : (s.setSpc v).model = s.model := rfl

end Sys2Proof.Machine
end

