-- ==== Sys2Proof/Laws/Registers.lean ====
section
/-! SUPPORT. Reads of registers, flags and pending bits after writes of them. -/

namespace Sys2Proof.Machine

/-- A register just written. -/
@[simp] theorem Regs.get_set_same (r : Regs) (n : Reg) (v : Word) : (r.set n v).get n = v := by cases n <;> rfl

/-- Another register. -/
theorem Regs.get_set_other (r : Regs) (n m : Reg) (v : Word) (h : m ≠ n) : (r.set n v).get m = r.get m := by
  cases n <;> cases m <;> first | rfl | exact absurd rfl h

@[simp] theorem reg_setReg_same (s : State) (n : Reg) (v : Word) : (s.setReg n v).reg n = v :=
  Regs.get_set_same _ n v

theorem reg_setReg_other (s : State) (n m : Reg) (v : Word) (h : m ≠ n) : (s.setReg n v).reg m = s.reg m :=
  Regs.get_set_other _ n m v h

@[simp] theorem reg_setNzvc (s : State) (f : Nzvc) (n : Reg) : (s.setNzvc f).reg n = s.reg n := rfl
@[simp] theorem reg_setPc (s : State) (v : Word) (n : Reg) : (s.setPc v).reg n = s.reg n := rfl
@[simp] theorem reg_setCp (s : State) (v : Byte) (n : Reg) : (s.setCp v).reg n = s.reg n := rfl
@[simp] theorem reg_requestException (s : State) (k : ExcKind) (n : Reg) : (requestException k s).reg n = s.reg n := rfl

/-- The flags just written. -/
@[simp] theorem nzvc_setNzvc (s : State) (f : Nzvc) : (s.setNzvc f).nzvc = f := by
  obtain ⟨n, z, v, c⟩ := f
  simp only [State.nzvc, setNzvc_cpu_sr, Nzvc.bits, bit]
  cases n <;> cases z <;> cases v <;> cases c <;> simp

/-- Writing the flags leaves T, I and the bits that do not exist. -/
theorem sr_setNzvc_high (s : State) (f : Nzvc) (i : Nat) (h : 4 ≤ i) :
    (s.setNzvc f).cpu.sr.getLsbD i = s.cpu.sr.getLsbD i := by
  obtain ⟨n, z, v, c⟩ := f
  by_cases hi : i < 16
  · have : i = 4 ∨ i = 5 ∨ i = 6 ∨ i = 7 ∨ i = 8 ∨ i = 9 ∨ i = 10 ∨ i = 11 ∨ i = 12 ∨ i = 13 ∨ i = 14 ∨ i = 15 := by
      omega
    simp only [setNzvc_cpu_sr, Nzvc.bits, bit]
    rcases this with h | h | h | h | h | h | h | h | h | h | h | h <;> subst h <;>
      cases n <;> cases z <;> cases v <;> cases c <;> simp
  · rw [BitVec.getLsbD_of_ge _ _ (by omega), BitVec.getLsbD_of_ge _ _ (by omega)]

/-- Registers written do not touch the flags. -/
@[simp] theorem nzvc_setReg (s : State) (n : Reg) (v : Word) : (s.setReg n v).nzvc = s.nzvc := rfl
@[simp] theorem nzvc_setPc (s : State) (v : Word) : (s.setPc v).nzvc = s.nzvc := rfl

/-- The source's bit after it is written. -/
theorem pendingWith_same (src : Source) (b : Bool) (t : BitVec 19) : (pendingWith src b t).getLsbD src.index = b := by
  cases src <;> cases b <;> simp [pendingWith, Source.index]

/-- Another source's bit. -/
theorem pendingWith_other (src x : Source) (b : Bool) (t : BitVec 19) (h : x ≠ src) :
    (pendingWith src b t).getLsbD x.index = t.getLsbD x.index := by
  cases src <;> cases x <;> first | exact absurd rfl h | (cases b <;> simp [pendingWith, Source.index])

/-- A source's line after `SetLine` (R507). -/
@[simp] theorem pending_setLine_same (src : Source) (b : Bool) (s : State) : (setLine src b s).pending src = b :=
  pendingWith_same src b _

/-- Another source's line after `SetLine`. -/
theorem pending_setLine_other (src x : Source) (b : Bool) (s : State) (h : x ≠ src) :
    (setLine src b s).pending x = s.pending x := pendingWith_other src x b _ h

end Sys2Proof.Machine
end

