-- ==== Sys2Proof/Laws/Bus.lean ====
section
/-! SUPPORT. What an access of the main core's bus can change, said once for each operation: a read changes only the timers'
shadow bits, the link, the PCM engine, the pending table and the count of free values; a write also RAM, SRAM and the
host's record. -/

namespace Sys2Proof.Machine

variable (s : State)

/-- What a read of the bus can change. -/
def ReadShape (s t : State) : Prop :=
  ∃ ip d l m n, t = { s with cpu.intPending := ip, dev := d, link := l, pcm := m, model.draws := n } ∧
    d.ramcr = s.dev.ramcr ∧ l.shram = s.link.shram ∧ m.waveRom = s.pcm.waveRom

/-- What a write of the bus can change. -/
def WriteShape (s t : State) : Prop :=
  ∃ ip d l m ram sram o, t = { s with cpu.intPending := ip, dev := d, link := l, pcm := m, mem.ram := ram,
                                      mem.sram := sram, model.hostOut := o } ∧ m.waveRom = s.pcm.waveRom

theorem ReadShape.refl : ReadShape s s := ⟨_, _, _, _, _, rfl, rfl, rfl, rfl⟩

theorem WriteShape.refl : WriteShape s s := ⟨_, _, _, _, _, _, _, rfl, rfl⟩

theorem setFrt_ramcr (d : Dev) (k : FrtId) (t : Frt) : (d.setFrt k t).ramcr = d.ramcr := by cases k <;> rfl

theorem collide_shram (p : Params) (a : SharedAccess) (l : Link) : (l.collide p a).shram = l.shram := rfl

theorem pcmRead_shape (r : BitVec 6) : ReadShape s (pcmRead r s).2 := by
  unfold pcmRead
  split
  all_goals first
    | exact ReadShape.refl s
    | exact ⟨_, _, _, _, _, rfl, rfl, rfl, rfl⟩

theorem windowRead_shape (i : Nat) : ReadShape s (windowRead i s).2 := by
  unfold windowRead
  split
  · exact ⟨_, _, _, _, _, rfl, rfl, rfl, rfl⟩
  · split_ifs <;> exact ReadShape.refl s

theorem devRead_shape (i : Nat) : ReadShape s (devRead i s).2 := by
  unfold devRead
  split
  all_goals first
    | exact ReadShape.refl s
    | exact ⟨_, _, _, _, _, rfl, setFrt_ramcr _ _ _, rfl, rfl⟩
    | exact ⟨_, _, _, _, _, rfl, rfl, rfl, rfl⟩

/-- Everything `read8` can change. -/
theorem read8_shape (pa : BusAddr) : ReadShape s (read8 pa s).2 := by
  unfold read8
  split
  all_goals first
    | exact ReadShape.refl s
    | exact pcmRead_shape s _
    | exact windowRead_shape s _
    | exact devRead_shape s _
    | exact ⟨_, _, _, _, _, rfl, rfl, rfl, rfl⟩

theorem pcmWrite_shape (r : BitVec 6) (v : Byte) : WriteShape s (pcmWrite r v s) := by
  unfold pcmWrite
  split
  all_goals first
    | exact WriteShape.refl s
    | exact ⟨_, _, _, _, _, _, _, rfl, rfl⟩

theorem windowWrite_shape (i : Nat) (v : Byte) : WriteShape s (windowWrite i v s) := by
  unfold windowWrite
  split_ifs
  all_goals first
    | exact WriteShape.refl s
    | exact ⟨_, _, _, _, _, _, _, rfl, rfl⟩

theorem devWrite_shape (pa : BusAddr) (i : Nat) (v : Byte) : WriteShape s (devWrite pa i v s) := by
  unfold devWrite
  split
  all_goals exact ⟨_, _, _, _, _, _, _, rfl, rfl⟩

/-- Everything `write8` can change. -/
theorem write8_shape (pa : BusAddr) (v : Byte) : WriteShape s (write8 pa v s) := by
  unfold write8
  split
  all_goals first
    | exact WriteShape.refl s
    | exact pcmWrite_shape s _ _
    | exact windowWrite_shape s _ _
    | exact devWrite_shape s _ _ _
    | exact ⟨_, _, _, _, _, _, _, rfl, rfl⟩

/-! ## Consequences, field by field -/

section fields
variable (pa : BusAddr) (v : Byte)

@[simp] theorem read8_params : (read8 pa s).2.params = s.params := by
  obtain ⟨_, _, _, _, _, h, -⟩ := read8_shape s pa; rw [h]
@[simp] theorem read8_mem : (read8 pa s).2.mem = s.mem := by
  obtain ⟨_, _, _, _, _, h, -⟩ := read8_shape s pa; rw [h]
@[simp] theorem read8_sub : (read8 pa s).2.sub = s.sub := by
  obtain ⟨_, _, _, _, _, h, -⟩ := read8_shape s pa; rw [h]
@[simp] theorem read8_regs : (read8 pa s).2.cpu.regs = s.cpu.regs := by
  obtain ⟨_, _, _, _, _, h, -⟩ := read8_shape s pa; rw [h]
@[simp] theorem read8_pc : (read8 pa s).2.cpu.pc = s.cpu.pc := by
  obtain ⟨_, _, _, _, _, h, -⟩ := read8_shape s pa; rw [h]
@[simp] theorem read8_sr : (read8 pa s).2.cpu.sr = s.cpu.sr := by
  obtain ⟨_, _, _, _, _, h, -⟩ := read8_shape s pa; rw [h]
@[simp] theorem read8_cp : (read8 pa s).2.cpu.cp = s.cpu.cp := by
  obtain ⟨_, _, _, _, _, h, -⟩ := read8_shape s pa; rw [h]
@[simp] theorem read8_dp : (read8 pa s).2.cpu.dp = s.cpu.dp := by
  obtain ⟨_, _, _, _, _, h, -⟩ := read8_shape s pa; rw [h]
@[simp] theorem read8_ep : (read8 pa s).2.cpu.ep = s.cpu.ep := by
  obtain ⟨_, _, _, _, _, h, -⟩ := read8_shape s pa; rw [h]
@[simp] theorem read8_tp : (read8 pa s).2.cpu.tp = s.cpu.tp := by
  obtain ⟨_, _, _, _, _, h, -⟩ := read8_shape s pa; rw [h]
@[simp] theorem read8_br : (read8 pa s).2.cpu.br = s.cpu.br := by
  obtain ⟨_, _, _, _, _, h, -⟩ := read8_shape s pa; rw [h]
@[simp] theorem read8_cycles : (read8 pa s).2.cpu.cycles = s.cpu.cycles := by
  obtain ⟨_, _, _, _, _, h, -⟩ := read8_shape s pa; rw [h]
@[simp] theorem read8_sleep : (read8 pa s).2.cpu.sleep = s.cpu.sleep := by
  obtain ⟨_, _, _, _, _, h, -⟩ := read8_shape s pa; rw [h]
@[simp] theorem read8_suppress : (read8 pa s).2.cpu.suppress = s.cpu.suppress := by
  obtain ⟨_, _, _, _, _, h, -⟩ := read8_shape s pa; rw [h]
@[simp] theorem read8_trapPending : (read8 pa s).2.cpu.trapPending = s.cpu.trapPending := by
  obtain ⟨_, _, _, _, _, h, -⟩ := read8_shape s pa; rw [h]
@[simp] theorem read8_excSlot : (read8 pa s).2.cpu.excSlot = s.cpu.excSlot := by
  obtain ⟨_, _, _, _, _, h, -⟩ := read8_shape s pa; rw [h]
@[simp] theorem read8_phase : (read8 pa s).2.model.phase = s.model.phase := by
  obtain ⟨_, _, _, _, _, h, -⟩ := read8_shape s pa; rw [h]
@[simp] theorem read8_hostIn : (read8 pa s).2.model.hostIn = s.model.hostIn := by
  obtain ⟨_, _, _, _, _, h, -⟩ := read8_shape s pa; rw [h]
@[simp] theorem read8_hostOut : (read8 pa s).2.model.hostOut = s.model.hostOut := by
  obtain ⟨_, _, _, _, _, h, -⟩ := read8_shape s pa; rw [h]
@[simp] theorem read8_shram : (read8 pa s).2.link.shram = s.link.shram := by
  obtain ⟨_, _, _, _, _, h, _, hl, _⟩ := read8_shape s pa; rw [h]; exact hl
@[simp] theorem read8_waveRom : (read8 pa s).2.pcm.waveRom = s.pcm.waveRom := by
  obtain ⟨_, _, _, _, _, h, _, _, hm⟩ := read8_shape s pa; rw [h]; exact hm
@[simp] theorem read8_rame : (read8 pa s).2.dev.rame = s.dev.rame := by
  obtain ⟨_, _, _, _, _, h, hd, _, _⟩ := read8_shape s pa; rw [h]; simp only [Dev.rame]; rw [hd]
@[simp] theorem read8_reg (n : Reg) : (read8 pa s).2.reg n = s.reg n := by simp only [State.reg, read8_regs]
@[simp] theorem read8_nzvc : (read8 pa s).2.nzvc = s.nzvc := by simp only [State.nzvc, read8_sr]

/-- A read does not move the address map. -/
@[simp] theorem read8_target (pb : BusAddr) : (read8 pa s).2.target pb = s.target pb := by
  simp only [State.target, read8_params, read8_rame]

@[simp] theorem write8_params : (write8 pa v s).params = s.params := by
  obtain ⟨_, _, _, _, _, _, _, h, -⟩ := write8_shape s pa v; rw [h]
@[simp] theorem write8_sub : (write8 pa v s).sub = s.sub := by
  obtain ⟨_, _, _, _, _, _, _, h, -⟩ := write8_shape s pa v; rw [h]
@[simp] theorem write8_rom1 : (write8 pa v s).mem.rom1 = s.mem.rom1 := by
  obtain ⟨_, _, _, _, _, _, _, h, -⟩ := write8_shape s pa v; rw [h]
@[simp] theorem write8_rom2 : (write8 pa v s).mem.rom2 = s.mem.rom2 := by
  obtain ⟨_, _, _, _, _, _, _, h, -⟩ := write8_shape s pa v; rw [h]
@[simp] theorem write8_regs : (write8 pa v s).cpu.regs = s.cpu.regs := by
  obtain ⟨_, _, _, _, _, _, _, h, -⟩ := write8_shape s pa v; rw [h]
@[simp] theorem write8_pc : (write8 pa v s).cpu.pc = s.cpu.pc := by
  obtain ⟨_, _, _, _, _, _, _, h, -⟩ := write8_shape s pa v; rw [h]
@[simp] theorem write8_sr : (write8 pa v s).cpu.sr = s.cpu.sr := by
  obtain ⟨_, _, _, _, _, _, _, h, -⟩ := write8_shape s pa v; rw [h]
@[simp] theorem write8_cp : (write8 pa v s).cpu.cp = s.cpu.cp := by
  obtain ⟨_, _, _, _, _, _, _, h, -⟩ := write8_shape s pa v; rw [h]
@[simp] theorem write8_dp : (write8 pa v s).cpu.dp = s.cpu.dp := by
  obtain ⟨_, _, _, _, _, _, _, h, -⟩ := write8_shape s pa v; rw [h]
@[simp] theorem write8_ep : (write8 pa v s).cpu.ep = s.cpu.ep := by
  obtain ⟨_, _, _, _, _, _, _, h, -⟩ := write8_shape s pa v; rw [h]
@[simp] theorem write8_tp : (write8 pa v s).cpu.tp = s.cpu.tp := by
  obtain ⟨_, _, _, _, _, _, _, h, -⟩ := write8_shape s pa v; rw [h]
@[simp] theorem write8_br : (write8 pa v s).cpu.br = s.cpu.br := by
  obtain ⟨_, _, _, _, _, _, _, h, -⟩ := write8_shape s pa v; rw [h]
@[simp] theorem write8_cycles : (write8 pa v s).cpu.cycles = s.cpu.cycles := by
  obtain ⟨_, _, _, _, _, _, _, h, -⟩ := write8_shape s pa v; rw [h]
@[simp] theorem write8_sleep : (write8 pa v s).cpu.sleep = s.cpu.sleep := by
  obtain ⟨_, _, _, _, _, _, _, h, -⟩ := write8_shape s pa v; rw [h]
@[simp] theorem write8_suppress : (write8 pa v s).cpu.suppress = s.cpu.suppress := by
  obtain ⟨_, _, _, _, _, _, _, h, -⟩ := write8_shape s pa v; rw [h]
@[simp] theorem write8_trapPending : (write8 pa v s).cpu.trapPending = s.cpu.trapPending := by
  obtain ⟨_, _, _, _, _, _, _, h, -⟩ := write8_shape s pa v; rw [h]
@[simp] theorem write8_excSlot : (write8 pa v s).cpu.excSlot = s.cpu.excSlot := by
  obtain ⟨_, _, _, _, _, _, _, h, -⟩ := write8_shape s pa v; rw [h]
@[simp] theorem write8_draws : (write8 pa v s).model.draws = s.model.draws := by
  obtain ⟨_, _, _, _, _, _, _, h, -⟩ := write8_shape s pa v; rw [h]
@[simp] theorem write8_phase : (write8 pa v s).model.phase = s.model.phase := by
  obtain ⟨_, _, _, _, _, _, _, h, -⟩ := write8_shape s pa v; rw [h]
@[simp] theorem write8_hostIn : (write8 pa v s).model.hostIn = s.model.hostIn := by
  obtain ⟨_, _, _, _, _, _, _, h, -⟩ := write8_shape s pa v; rw [h]
@[simp] theorem write8_waveRom : (write8 pa v s).pcm.waveRom = s.pcm.waveRom := by
  obtain ⟨_, _, _, _, _, _, _, h, hm⟩ := write8_shape s pa v; rw [h]; exact hm
@[simp] theorem write8_reg (n : Reg) : (write8 pa v s).reg n = s.reg n := by simp only [State.reg, write8_regs]
@[simp] theorem write8_nzvc : (write8 pa v s).nzvc = s.nzvc := by simp only [State.nzvc, write8_sr]

end fields

end Sys2Proof.Machine
end

