-- ==== Sys2Proof/Laws/Ops.lean ====
section
/-! SUPPORT. What the word accesses, the stack and the operand accesses of the main core leave alone, field by field. -/

namespace Sys2Proof.Machine

variable (s : State)

section words
variable (pa : BusAddr) (v : Word) (sz : Size)

@[simp] theorem checkAligned_params : (checkAligned pa s).params = s.params := by unfold checkAligned; split <;> rfl
@[simp] theorem checkAligned_mem : (checkAligned pa s).mem = s.mem := by unfold checkAligned; split <;> rfl
@[simp] theorem checkAligned_sub : (checkAligned pa s).sub = s.sub := by unfold checkAligned; split <;> rfl
@[simp] theorem checkAligned_regs : (checkAligned pa s).cpu.regs = s.cpu.regs := by unfold checkAligned; split <;> rfl
@[simp] theorem checkAligned_pc : (checkAligned pa s).cpu.pc = s.cpu.pc := by unfold checkAligned; split <;> rfl
@[simp] theorem checkAligned_sr : (checkAligned pa s).cpu.sr = s.cpu.sr := by unfold checkAligned; split <;> rfl
@[simp] theorem checkAligned_cp : (checkAligned pa s).cpu.cp = s.cpu.cp := by unfold checkAligned; split <;> rfl
@[simp] theorem checkAligned_dp : (checkAligned pa s).cpu.dp = s.cpu.dp := by unfold checkAligned; split <;> rfl
@[simp] theorem checkAligned_ep : (checkAligned pa s).cpu.ep = s.cpu.ep := by unfold checkAligned; split <;> rfl
@[simp] theorem checkAligned_tp : (checkAligned pa s).cpu.tp = s.cpu.tp := by unfold checkAligned; split <;> rfl
@[simp] theorem checkAligned_br : (checkAligned pa s).cpu.br = s.cpu.br := by unfold checkAligned; split <;> rfl
@[simp] theorem checkAligned_cycles : (checkAligned pa s).cpu.cycles = s.cpu.cycles := by unfold checkAligned; split <;> rfl
@[simp] theorem checkAligned_sleep : (checkAligned pa s).cpu.sleep = s.cpu.sleep := by unfold checkAligned; split <;> rfl
@[simp] theorem checkAligned_suppress : (checkAligned pa s).cpu.suppress = s.cpu.suppress := by unfold checkAligned; split <;> rfl
@[simp] theorem checkAligned_trapPending : (checkAligned pa s).cpu.trapPending = s.cpu.trapPending := by unfold checkAligned; split <;> rfl
@[simp] theorem checkAligned_phase : (checkAligned pa s).model.phase = s.model.phase := by unfold checkAligned; split <;> rfl
@[simp] theorem checkAligned_hostIn : (checkAligned pa s).model.hostIn = s.model.hostIn := by unfold checkAligned; split <;> rfl
@[simp] theorem checkAligned_hostOut : (checkAligned pa s).model.hostOut = s.model.hostOut := by unfold checkAligned; split <;> rfl
@[simp] theorem checkAligned_shram : (checkAligned pa s).link.shram = s.link.shram := by unfold checkAligned; split <;> rfl
@[simp] theorem checkAligned_waveRom : (checkAligned pa s).pcm.waveRom = s.pcm.waveRom := by unfold checkAligned; split <;> rfl
@[simp] theorem checkAligned_rame : (checkAligned pa s).dev.rame = s.dev.rame := by unfold checkAligned; split <;> rfl
@[simp] theorem checkAligned_draws : (checkAligned pa s).model.draws = s.model.draws := by unfold checkAligned; split <;> rfl
@[simp] theorem checkAligned_reg (n : Reg) : (checkAligned pa s).reg n = s.reg n := by unfold checkAligned; split <;> rfl
@[simp] theorem checkAligned_nzvc : (checkAligned pa s).nzvc = s.nzvc := by unfold checkAligned; split <;> rfl
@[simp] theorem checkAligned_target (pb : BusAddr) : (checkAligned pa s).target pb = s.target pb := by
  unfold checkAligned; split <;> rfl

@[simp] theorem memRead16_params : (memRead16 pa s).2.params = s.params := by simp [memRead16]
@[simp] theorem memRead16_mem : (memRead16 pa s).2.mem = s.mem := by simp [memRead16]
@[simp] theorem memRead16_sub : (memRead16 pa s).2.sub = s.sub := by simp [memRead16]
@[simp] theorem memRead16_regs : (memRead16 pa s).2.cpu.regs = s.cpu.regs := by simp [memRead16]
@[simp] theorem memRead16_pc : (memRead16 pa s).2.cpu.pc = s.cpu.pc := by simp [memRead16]
@[simp] theorem memRead16_sr : (memRead16 pa s).2.cpu.sr = s.cpu.sr := by simp [memRead16]
@[simp] theorem memRead16_cp : (memRead16 pa s).2.cpu.cp = s.cpu.cp := by simp [memRead16]
@[simp] theorem memRead16_dp : (memRead16 pa s).2.cpu.dp = s.cpu.dp := by simp [memRead16]
@[simp] theorem memRead16_ep : (memRead16 pa s).2.cpu.ep = s.cpu.ep := by simp [memRead16]
@[simp] theorem memRead16_tp : (memRead16 pa s).2.cpu.tp = s.cpu.tp := by simp [memRead16]
@[simp] theorem memRead16_br : (memRead16 pa s).2.cpu.br = s.cpu.br := by simp [memRead16]
@[simp] theorem memRead16_cycles : (memRead16 pa s).2.cpu.cycles = s.cpu.cycles := by simp [memRead16]
@[simp] theorem memRead16_sleep : (memRead16 pa s).2.cpu.sleep = s.cpu.sleep := by simp [memRead16]
@[simp] theorem memRead16_suppress : (memRead16 pa s).2.cpu.suppress = s.cpu.suppress := by simp [memRead16]
@[simp] theorem memRead16_trapPending : (memRead16 pa s).2.cpu.trapPending = s.cpu.trapPending := by simp [memRead16]
@[simp] theorem memRead16_phase : (memRead16 pa s).2.model.phase = s.model.phase := by simp [memRead16]
@[simp] theorem memRead16_hostIn : (memRead16 pa s).2.model.hostIn = s.model.hostIn := by simp [memRead16]
@[simp] theorem memRead16_hostOut : (memRead16 pa s).2.model.hostOut = s.model.hostOut := by simp [memRead16]
@[simp] theorem memRead16_shram : (memRead16 pa s).2.link.shram = s.link.shram := by simp [memRead16]
@[simp] theorem memRead16_waveRom : (memRead16 pa s).2.pcm.waveRom = s.pcm.waveRom := by simp [memRead16]
@[simp] theorem memRead16_rame : (memRead16 pa s).2.dev.rame = s.dev.rame := by simp [memRead16]
@[simp] theorem memRead16_reg (n : Reg) : (memRead16 pa s).2.reg n = s.reg n := by simp [memRead16]
@[simp] theorem memRead16_nzvc : (memRead16 pa s).2.nzvc = s.nzvc := by simp [memRead16]

@[simp] theorem memWrite16_params : (memWrite16 pa v s).params = s.params := by simp [memWrite16]
@[simp] theorem memWrite16_sub : (memWrite16 pa v s).sub = s.sub := by simp [memWrite16]
@[simp] theorem memWrite16_rom1 : (memWrite16 pa v s).mem.rom1 = s.mem.rom1 := by simp [memWrite16]
@[simp] theorem memWrite16_rom2 : (memWrite16 pa v s).mem.rom2 = s.mem.rom2 := by simp [memWrite16]
@[simp] theorem memWrite16_regs : (memWrite16 pa v s).cpu.regs = s.cpu.regs := by simp [memWrite16]
@[simp] theorem memWrite16_pc : (memWrite16 pa v s).cpu.pc = s.cpu.pc := by simp [memWrite16]
@[simp] theorem memWrite16_sr : (memWrite16 pa v s).cpu.sr = s.cpu.sr := by simp [memWrite16]
@[simp] theorem memWrite16_cp : (memWrite16 pa v s).cpu.cp = s.cpu.cp := by simp [memWrite16]
@[simp] theorem memWrite16_dp : (memWrite16 pa v s).cpu.dp = s.cpu.dp := by simp [memWrite16]
@[simp] theorem memWrite16_ep : (memWrite16 pa v s).cpu.ep = s.cpu.ep := by simp [memWrite16]
@[simp] theorem memWrite16_tp : (memWrite16 pa v s).cpu.tp = s.cpu.tp := by simp [memWrite16]
@[simp] theorem memWrite16_br : (memWrite16 pa v s).cpu.br = s.cpu.br := by simp [memWrite16]
@[simp] theorem memWrite16_cycles : (memWrite16 pa v s).cpu.cycles = s.cpu.cycles := by simp [memWrite16]
@[simp] theorem memWrite16_sleep : (memWrite16 pa v s).cpu.sleep = s.cpu.sleep := by simp [memWrite16]
@[simp] theorem memWrite16_suppress : (memWrite16 pa v s).cpu.suppress = s.cpu.suppress := by simp [memWrite16]
@[simp] theorem memWrite16_trapPending : (memWrite16 pa v s).cpu.trapPending = s.cpu.trapPending := by simp [memWrite16]
@[simp] theorem memWrite16_draws : (memWrite16 pa v s).model.draws = s.model.draws := by simp [memWrite16]
@[simp] theorem memWrite16_phase : (memWrite16 pa v s).model.phase = s.model.phase := by simp [memWrite16]
@[simp] theorem memWrite16_hostIn : (memWrite16 pa v s).model.hostIn = s.model.hostIn := by simp [memWrite16]
@[simp] theorem memWrite16_waveRom : (memWrite16 pa v s).pcm.waveRom = s.pcm.waveRom := by simp [memWrite16]
@[simp] theorem memWrite16_reg (n : Reg) : (memWrite16 pa v s).reg n = s.reg n := by simp [memWrite16]
@[simp] theorem memWrite16_nzvc : (memWrite16 pa v s).nzvc = s.nzvc := by simp [memWrite16]

@[simp] theorem memRead_params : (memRead sz pa s).2.params = s.params := by cases sz <;> simp [memRead]
@[simp] theorem memRead_mem : (memRead sz pa s).2.mem = s.mem := by cases sz <;> simp [memRead]
@[simp] theorem memRead_sub : (memRead sz pa s).2.sub = s.sub := by cases sz <;> simp [memRead]
@[simp] theorem memRead_regs : (memRead sz pa s).2.cpu.regs = s.cpu.regs := by cases sz <;> simp [memRead]
@[simp] theorem memRead_pc : (memRead sz pa s).2.cpu.pc = s.cpu.pc := by cases sz <;> simp [memRead]
@[simp] theorem memRead_sr : (memRead sz pa s).2.cpu.sr = s.cpu.sr := by cases sz <;> simp [memRead]
@[simp] theorem memRead_cp : (memRead sz pa s).2.cpu.cp = s.cpu.cp := by cases sz <;> simp [memRead]
@[simp] theorem memRead_dp : (memRead sz pa s).2.cpu.dp = s.cpu.dp := by cases sz <;> simp [memRead]
@[simp] theorem memRead_ep : (memRead sz pa s).2.cpu.ep = s.cpu.ep := by cases sz <;> simp [memRead]
@[simp] theorem memRead_tp : (memRead sz pa s).2.cpu.tp = s.cpu.tp := by cases sz <;> simp [memRead]
@[simp] theorem memRead_br : (memRead sz pa s).2.cpu.br = s.cpu.br := by cases sz <;> simp [memRead]
@[simp] theorem memRead_cycles : (memRead sz pa s).2.cpu.cycles = s.cpu.cycles := by cases sz <;> simp [memRead]
@[simp] theorem memRead_sleep : (memRead sz pa s).2.cpu.sleep = s.cpu.sleep := by cases sz <;> simp [memRead]
@[simp] theorem memRead_suppress : (memRead sz pa s).2.cpu.suppress = s.cpu.suppress := by cases sz <;> simp [memRead]
@[simp] theorem memRead_trapPending : (memRead sz pa s).2.cpu.trapPending = s.cpu.trapPending := by cases sz <;> simp [memRead]
@[simp] theorem memRead_phase : (memRead sz pa s).2.model.phase = s.model.phase := by cases sz <;> simp [memRead]
@[simp] theorem memRead_hostIn : (memRead sz pa s).2.model.hostIn = s.model.hostIn := by cases sz <;> simp [memRead]
@[simp] theorem memRead_hostOut : (memRead sz pa s).2.model.hostOut = s.model.hostOut := by cases sz <;> simp [memRead]
@[simp] theorem memRead_shram : (memRead sz pa s).2.link.shram = s.link.shram := by cases sz <;> simp [memRead]
@[simp] theorem memRead_waveRom : (memRead sz pa s).2.pcm.waveRom = s.pcm.waveRom := by cases sz <;> simp [memRead]
@[simp] theorem memRead_rame : (memRead sz pa s).2.dev.rame = s.dev.rame := by cases sz <;> simp [memRead]
@[simp] theorem memRead_reg (n : Reg) : (memRead sz pa s).2.reg n = s.reg n := by cases sz <;> simp [memRead]
@[simp] theorem memRead_nzvc : (memRead sz pa s).2.nzvc = s.nzvc := by cases sz <;> simp [memRead]

@[simp] theorem memWrite_params : (memWrite sz pa v s).params = s.params := by cases sz <;> simp [memWrite]
@[simp] theorem memWrite_sub : (memWrite sz pa v s).sub = s.sub := by cases sz <;> simp [memWrite]
@[simp] theorem memWrite_rom1 : (memWrite sz pa v s).mem.rom1 = s.mem.rom1 := by cases sz <;> simp [memWrite]
@[simp] theorem memWrite_rom2 : (memWrite sz pa v s).mem.rom2 = s.mem.rom2 := by cases sz <;> simp [memWrite]
@[simp] theorem memWrite_regs : (memWrite sz pa v s).cpu.regs = s.cpu.regs := by cases sz <;> simp [memWrite]
@[simp] theorem memWrite_pc : (memWrite sz pa v s).cpu.pc = s.cpu.pc := by cases sz <;> simp [memWrite]
@[simp] theorem memWrite_sr : (memWrite sz pa v s).cpu.sr = s.cpu.sr := by cases sz <;> simp [memWrite]
@[simp] theorem memWrite_cp : (memWrite sz pa v s).cpu.cp = s.cpu.cp := by cases sz <;> simp [memWrite]
@[simp] theorem memWrite_dp : (memWrite sz pa v s).cpu.dp = s.cpu.dp := by cases sz <;> simp [memWrite]
@[simp] theorem memWrite_ep : (memWrite sz pa v s).cpu.ep = s.cpu.ep := by cases sz <;> simp [memWrite]
@[simp] theorem memWrite_tp : (memWrite sz pa v s).cpu.tp = s.cpu.tp := by cases sz <;> simp [memWrite]
@[simp] theorem memWrite_br : (memWrite sz pa v s).cpu.br = s.cpu.br := by cases sz <;> simp [memWrite]
@[simp] theorem memWrite_cycles : (memWrite sz pa v s).cpu.cycles = s.cpu.cycles := by cases sz <;> simp [memWrite]
@[simp] theorem memWrite_sleep : (memWrite sz pa v s).cpu.sleep = s.cpu.sleep := by cases sz <;> simp [memWrite]
@[simp] theorem memWrite_suppress : (memWrite sz pa v s).cpu.suppress = s.cpu.suppress := by cases sz <;> simp [memWrite]
@[simp] theorem memWrite_trapPending : (memWrite sz pa v s).cpu.trapPending = s.cpu.trapPending := by cases sz <;> simp [memWrite]
@[simp] theorem memWrite_draws : (memWrite sz pa v s).model.draws = s.model.draws := by cases sz <;> simp [memWrite]
@[simp] theorem memWrite_phase : (memWrite sz pa v s).model.phase = s.model.phase := by cases sz <;> simp [memWrite]
@[simp] theorem memWrite_hostIn : (memWrite sz pa v s).model.hostIn = s.model.hostIn := by cases sz <;> simp [memWrite]
@[simp] theorem memWrite_waveRom : (memWrite sz pa v s).pcm.waveRom = s.pcm.waveRom := by cases sz <;> simp [memWrite]
@[simp] theorem memWrite_reg (n : Reg) : (memWrite sz pa v s).reg n = s.reg n := by cases sz <;> simp [memWrite]
@[simp] theorem memWrite_nzvc : (memWrite sz pa v s).nzvc = s.nzvc := by cases sz <;> simp [memWrite]

end words

section operands
variable (o : Operand) (sz : Size) (ea : EA)

@[simp] theorem readOp_params : (readOp sz o s).2.params = s.params := by cases o <;> simp [readOp]
@[simp] theorem readOp_mem : (readOp sz o s).2.mem = s.mem := by cases o <;> simp [readOp]
@[simp] theorem readOp_sub : (readOp sz o s).2.sub = s.sub := by cases o <;> simp [readOp]
@[simp] theorem readOp_regs : (readOp sz o s).2.cpu.regs = s.cpu.regs := by cases o <;> simp [readOp]
@[simp] theorem readOp_pc : (readOp sz o s).2.cpu.pc = s.cpu.pc := by cases o <;> simp [readOp]
@[simp] theorem readOp_sr : (readOp sz o s).2.cpu.sr = s.cpu.sr := by cases o <;> simp [readOp]
@[simp] theorem readOp_cp : (readOp sz o s).2.cpu.cp = s.cpu.cp := by cases o <;> simp [readOp]
@[simp] theorem readOp_dp : (readOp sz o s).2.cpu.dp = s.cpu.dp := by cases o <;> simp [readOp]
@[simp] theorem readOp_ep : (readOp sz o s).2.cpu.ep = s.cpu.ep := by cases o <;> simp [readOp]
@[simp] theorem readOp_tp : (readOp sz o s).2.cpu.tp = s.cpu.tp := by cases o <;> simp [readOp]
@[simp] theorem readOp_br : (readOp sz o s).2.cpu.br = s.cpu.br := by cases o <;> simp [readOp]
@[simp] theorem readOp_cycles : (readOp sz o s).2.cpu.cycles = s.cpu.cycles := by cases o <;> simp [readOp]
@[simp] theorem readOp_sleep : (readOp sz o s).2.cpu.sleep = s.cpu.sleep := by cases o <;> simp [readOp]
@[simp] theorem readOp_suppress : (readOp sz o s).2.cpu.suppress = s.cpu.suppress := by cases o <;> simp [readOp]
@[simp] theorem readOp_trapPending : (readOp sz o s).2.cpu.trapPending = s.cpu.trapPending := by cases o <;> simp [readOp]
@[simp] theorem readOp_phase : (readOp sz o s).2.model.phase = s.model.phase := by cases o <;> simp [readOp]
@[simp] theorem readOp_hostIn : (readOp sz o s).2.model.hostIn = s.model.hostIn := by cases o <;> simp [readOp]
@[simp] theorem readOp_hostOut : (readOp sz o s).2.model.hostOut = s.model.hostOut := by cases o <;> simp [readOp]
@[simp] theorem readOp_shram : (readOp sz o s).2.link.shram = s.link.shram := by cases o <;> simp [readOp]
@[simp] theorem readOp_waveRom : (readOp sz o s).2.pcm.waveRom = s.pcm.waveRom := by cases o <;> simp [readOp]
@[simp] theorem readOp_rame : (readOp sz o s).2.dev.rame = s.dev.rame := by cases o <;> simp [readOp]
@[simp] theorem readOp_reg (n : Reg) : (readOp sz o s).2.reg n = s.reg n := by cases o <;> simp [readOp]
@[simp] theorem readOp_nzvc : (readOp sz o s).2.nzvc = s.nzvc := by cases o <;> simp [readOp]

@[simp] theorem resolveEA_params : (resolveEA ea s).2.params = s.params := by cases ea <;> rfl
@[simp] theorem resolveEA_mem : (resolveEA ea s).2.mem = s.mem := by cases ea <;> rfl
@[simp] theorem resolveEA_sub : (resolveEA ea s).2.sub = s.sub := by cases ea <;> rfl
@[simp] theorem resolveEA_pc : (resolveEA ea s).2.cpu.pc = s.cpu.pc := by cases ea <;> rfl
@[simp] theorem resolveEA_sr : (resolveEA ea s).2.cpu.sr = s.cpu.sr := by cases ea <;> rfl
@[simp] theorem resolveEA_cp : (resolveEA ea s).2.cpu.cp = s.cpu.cp := by cases ea <;> rfl
@[simp] theorem resolveEA_dp : (resolveEA ea s).2.cpu.dp = s.cpu.dp := by cases ea <;> rfl
@[simp] theorem resolveEA_ep : (resolveEA ea s).2.cpu.ep = s.cpu.ep := by cases ea <;> rfl
@[simp] theorem resolveEA_tp : (resolveEA ea s).2.cpu.tp = s.cpu.tp := by cases ea <;> rfl
@[simp] theorem resolveEA_br : (resolveEA ea s).2.cpu.br = s.cpu.br := by cases ea <;> rfl
@[simp] theorem resolveEA_cycles : (resolveEA ea s).2.cpu.cycles = s.cpu.cycles := by cases ea <;> rfl
@[simp] theorem resolveEA_sleep : (resolveEA ea s).2.cpu.sleep = s.cpu.sleep := by cases ea <;> rfl
@[simp] theorem resolveEA_suppress : (resolveEA ea s).2.cpu.suppress = s.cpu.suppress := by cases ea <;> rfl
@[simp] theorem resolveEA_trapPending : (resolveEA ea s).2.cpu.trapPending = s.cpu.trapPending := by cases ea <;> rfl
@[simp] theorem resolveEA_phase : (resolveEA ea s).2.model.phase = s.model.phase := by cases ea <;> rfl
@[simp] theorem resolveEA_hostIn : (resolveEA ea s).2.model.hostIn = s.model.hostIn := by cases ea <;> rfl
@[simp] theorem resolveEA_hostOut : (resolveEA ea s).2.model.hostOut = s.model.hostOut := by cases ea <;> rfl
@[simp] theorem resolveEA_shram : (resolveEA ea s).2.link.shram = s.link.shram := by cases ea <;> rfl
@[simp] theorem resolveEA_waveRom : (resolveEA ea s).2.pcm.waveRom = s.pcm.waveRom := by cases ea <;> rfl
@[simp] theorem resolveEA_rame : (resolveEA ea s).2.dev.rame = s.dev.rame := by cases ea <;> rfl
@[simp] theorem resolveEA_excSlot : (resolveEA ea s).2.cpu.excSlot = s.cpu.excSlot := by cases ea <;> rfl
@[simp] theorem resolveEA_intPending : (resolveEA ea s).2.cpu.intPending = s.cpu.intPending := by cases ea <;> rfl
@[simp] theorem resolveEA_dev : (resolveEA ea s).2.dev = s.dev := by cases ea <;> rfl
@[simp] theorem resolveEA_link : (resolveEA ea s).2.link = s.link := by cases ea <;> rfl
@[simp] theorem resolveEA_pcm : (resolveEA ea s).2.pcm = s.pcm := by cases ea <;> rfl
@[simp] theorem resolveEA_draws : (resolveEA ea s).2.model.draws = s.model.draws := by cases ea <;> rfl
@[simp] theorem resolveEA_nzvc : (resolveEA ea s).2.nzvc = s.nzvc := by cases ea <;> rfl

end operands

section stack
variable (v : Word)

@[simp] theorem push16_params : (push16 v s).params = s.params := by simp [push16]
@[simp] theorem push16_sub : (push16 v s).sub = s.sub := by simp [push16]
@[simp] theorem push16_rom1 : (push16 v s).mem.rom1 = s.mem.rom1 := by simp [push16]
@[simp] theorem push16_rom2 : (push16 v s).mem.rom2 = s.mem.rom2 := by simp [push16]
@[simp] theorem push16_pc : (push16 v s).cpu.pc = s.cpu.pc := by simp [push16]
@[simp] theorem push16_sr : (push16 v s).cpu.sr = s.cpu.sr := by simp [push16]
@[simp] theorem push16_cp : (push16 v s).cpu.cp = s.cpu.cp := by simp [push16]
@[simp] theorem push16_dp : (push16 v s).cpu.dp = s.cpu.dp := by simp [push16]
@[simp] theorem push16_ep : (push16 v s).cpu.ep = s.cpu.ep := by simp [push16]
@[simp] theorem push16_tp : (push16 v s).cpu.tp = s.cpu.tp := by simp [push16]
@[simp] theorem push16_br : (push16 v s).cpu.br = s.cpu.br := by simp [push16]
@[simp] theorem push16_cycles : (push16 v s).cpu.cycles = s.cpu.cycles := by simp [push16]
@[simp] theorem push16_sleep : (push16 v s).cpu.sleep = s.cpu.sleep := by simp [push16]
@[simp] theorem push16_suppress : (push16 v s).cpu.suppress = s.cpu.suppress := by simp [push16]
@[simp] theorem push16_trapPending : (push16 v s).cpu.trapPending = s.cpu.trapPending := by simp [push16]
@[simp] theorem push16_draws : (push16 v s).model.draws = s.model.draws := by simp [push16]
@[simp] theorem push16_phase : (push16 v s).model.phase = s.model.phase := by simp [push16]
@[simp] theorem push16_hostIn : (push16 v s).model.hostIn = s.model.hostIn := by simp [push16]
@[simp] theorem push16_waveRom : (push16 v s).pcm.waveRom = s.pcm.waveRom := by simp [push16]
/-- A push moves R[7] down by 2 and no other register (R170). -/
@[simp] theorem push16_regs : (push16 v s).cpu.regs = s.cpu.regs.set .r7 (s.reg .r7 - 2#16) := by simp [push16]
@[simp] theorem push16_nzvc : (push16 v s).nzvc = s.nzvc := by simp [push16]
@[simp] theorem push16_sp : (push16 v s).reg .r7 = s.reg .r7 - 2#16 := by simp [push16]
theorem push16_reg (n : Reg) (h : n ≠ .r7) : (push16 v s).reg n = s.reg n := by
  simp [push16, reg_setReg_other _ _ _ _ h]

@[simp] theorem pop16_params : (pop16 s).2.params = s.params := by simp [pop16]
@[simp] theorem pop16_mem : (pop16 s).2.mem = s.mem := by simp [pop16]
@[simp] theorem pop16_sub : (pop16 s).2.sub = s.sub := by simp [pop16]
@[simp] theorem pop16_pc : (pop16 s).2.cpu.pc = s.cpu.pc := by simp [pop16]
@[simp] theorem pop16_sr : (pop16 s).2.cpu.sr = s.cpu.sr := by simp [pop16]
@[simp] theorem pop16_cp : (pop16 s).2.cpu.cp = s.cpu.cp := by simp [pop16]
@[simp] theorem pop16_dp : (pop16 s).2.cpu.dp = s.cpu.dp := by simp [pop16]
@[simp] theorem pop16_ep : (pop16 s).2.cpu.ep = s.cpu.ep := by simp [pop16]
@[simp] theorem pop16_tp : (pop16 s).2.cpu.tp = s.cpu.tp := by simp [pop16]
@[simp] theorem pop16_br : (pop16 s).2.cpu.br = s.cpu.br := by simp [pop16]
@[simp] theorem pop16_cycles : (pop16 s).2.cpu.cycles = s.cpu.cycles := by simp [pop16]
@[simp] theorem pop16_sleep : (pop16 s).2.cpu.sleep = s.cpu.sleep := by simp [pop16]
@[simp] theorem pop16_suppress : (pop16 s).2.cpu.suppress = s.cpu.suppress := by simp [pop16]
@[simp] theorem pop16_trapPending : (pop16 s).2.cpu.trapPending = s.cpu.trapPending := by simp [pop16]
@[simp] theorem pop16_phase : (pop16 s).2.model.phase = s.model.phase := by simp [pop16]
@[simp] theorem pop16_hostIn : (pop16 s).2.model.hostIn = s.model.hostIn := by simp [pop16]
@[simp] theorem pop16_hostOut : (pop16 s).2.model.hostOut = s.model.hostOut := by simp [pop16]
@[simp] theorem pop16_shram : (pop16 s).2.link.shram = s.link.shram := by simp [pop16]
@[simp] theorem pop16_waveRom : (pop16 s).2.pcm.waveRom = s.pcm.waveRom := by simp [pop16]
@[simp] theorem pop16_rame : (pop16 s).2.dev.rame = s.dev.rame := by simp [pop16]
/-- A pop moves R[7] up by 2 and no other register (R170). -/
@[simp] theorem pop16_regs : (pop16 s).2.cpu.regs = s.cpu.regs.set .r7 (s.reg .r7 + 2#16) := by simp [pop16]
@[simp] theorem pop16_nzvc : (pop16 s).2.nzvc = s.nzvc := by simp [pop16]
@[simp] theorem pop16_sp : (pop16 s).2.reg .r7 = s.reg .r7 + 2#16 := by simp [pop16]
theorem pop16_reg (n : Reg) (h : n ≠ .r7) : (pop16 s).2.reg n = s.reg n := by
  simp [pop16, reg_setReg_other _ _ _ _ h]

end stack

end Sys2Proof.Machine
end

