-- ==== Sys2Proof/Laws/Arrays.lean ====
section
/-! SUPPORT. What accesses of the main core's bus do to the bytes of the arrays. -/

namespace Sys2Proof.Machine

variable (s : State)

theorem setNzvc_arrayByte (f : Nzvc) (g : Target) : (s.setNzvc f).arrayByte g = s.arrayByte g := by cases g <;> rfl

theorem setReg_arrayByte (n : Reg) (v : Word) (g : Target) : (s.setReg n v).arrayByte g = s.arrayByte g := by
  cases g <;> rfl

theorem requestException_arrayByte (k : ExcKind) (g : Target) :
    (requestException k s).arrayByte g = s.arrayByte g := by cases g <;> rfl

/-- A device register's write touches no array. -/
theorem devWrite_arrayByte (pa : BusAddr) (i : Nat) (v : Byte) (g : Target) :
    (devWrite pa i v s).arrayByte g = s.arrayByte g := by
  unfold devWrite
  split <;> cases g <;> rfl

/-- A PCM register's write touches no array of the bus. -/
theorem pcmWrite_arrayByte (r : BitVec 6) (v : Byte) (g : Target) :
    (pcmWrite r v s).arrayByte g = s.arrayByte g := by
  unfold pcmWrite
  split <;> cases g <;> rfl

/-- A write of the shared window touches the shared byte it names only. -/
theorem windowWrite_arrayByte (i : Nat) (v : Byte) (g : Target) (h : g ≠ .shared i) :
    (windowWrite i v s).arrayByte g = s.arrayByte g := by
  unfold windowWrite
  split_ifs
  · cases g with
    | shared j =>
      have hj : j ≠ i := fun e => h (by rw [e])
      simp only [State.arrayByte, mainShWrite]
      rw [Memory.read_write_other _ _ _ _ hj, collide_shram]
    | _ => rfl
  all_goals cases g <;> rfl

/-- A byte write leaves every array byte but the one it names. -/
theorem write8_arrayByte (pa : BusAddr) (v : Byte) (g : Target) (h : g ≠ s.target pa) :
    (write8 pa v s).arrayByte g = s.arrayByte g := by
  unfold write8
  split <;> rename_i t ht <;> rw [ht] at h
  · cases g with
    | ram j =>
      have hj : j ≠ t := fun e => h (by rw [e])
      simp only [State.arrayByte]
      rw [Memory.read_write_other _ _ _ _ hj]
    | _ => rfl
  · cases g with
    | sram j =>
      have hj : j ≠ t := fun e => h (by rw [e])
      simp only [State.arrayByte]
      rw [Memory.read_write_other _ _ _ _ hj]
    | _ => rfl
  · exact pcmWrite_arrayByte s _ _ _
  · exact windowWrite_arrayByte s _ _ _ h
  · exact devWrite_arrayByte s _ _ _ _
  all_goals cases g <;> rfl

/-- A read leaves every array byte. -/
theorem read8_arrayByte (pa : BusAddr) (g : Target) : (read8 pa s).2.arrayByte g = s.arrayByte g := by
  cases g <;> simp [State.arrayByte]

/-! ## Stores of an operand's width -/

theorem checkAligned_arrayByte (pa : BusAddr) (g : Target) : (checkAligned pa s).arrayByte g = s.arrayByte g := by
  unfold checkAligned
  split
  · exact requestException_arrayByte s _ g
  · rfl

/-- RAMCR after a byte write: the byte where the address names RAMCR, else as it was. -/
theorem write8_ramcr (pa : BusAddr) (v : Byte) :
    (write8 pa v s).dev.ramcr =
      match s.target pa with
      | .dev i => if devReg i = .ramcr then v else s.dev.ramcr
      | _ => s.dev.ramcr := by
  unfold write8
  cases s.target pa with
  | pcm r => simp only [pcmWrite]; split <;> rfl
  | shared i => simp only [windowWrite]; split_ifs <;> rfl
  | dev i => simp only [devWrite]; split <;> simp_all [setFrt_ramcr, timerLines, extWrite, State.emit]
  | _ => rfl

/-- The map after a byte write is that of RAMCR after it. -/
theorem write8_target (pa pb : BusAddr) (v : Byte) :
    (write8 pa v s).target pb = busTarget s.params ((write8 pa v s).dev.ramcr.getLsbD 7) pb := by
  simp only [State.target, Dev.rame, write8_params]

/-- Where a byte write moves the map does not depend on more than the parameters and RAMCR. -/
theorem write8_target_congr (t : State) (pa pb : BusAddr) (v : Byte) (hp : t.params = s.params)
    (hr : t.dev.ramcr = s.dev.ramcr) : (write8 pa v t).target pb = (write8 pa v s).target pb := by
  have h : t.target pa = s.target pa := by simp only [State.target, Dev.rame, hp, hr]
  simp only [write8_target, write8_ramcr, hp, hr, h]

/-- A store of an operand's width leaves every array byte but those it reaches. -/
theorem memWrite_arraysKeptButStored (sz : Size) (pa : BusAddr) (v : Word) :
    ArraysKeptButStored sz pa v s (memWrite sz pa v s) := by
  cases sz with
  | byte => exact fun g h => write8_arrayByte s pa _ g h
  | word =>
    intro g h1 h2
    have hc : (checkAligned pa s).dev.ramcr = s.dev.ramcr := by unfold checkAligned; split <;> rfl
    have h := write8_target_congr s (checkAligned pa s) (evenBelow pa) (evenBelow pa + 1#20) v.hi
      (checkAligned_params s pa) hc
    simp only [memWrite, memWrite16]
    rw [write8_arrayByte _ _ _ _ (by rw [h]; exact h2), write8_arrayByte _ _ _ _ (by simpa using h1),
      checkAligned_arrayByte]

end Sys2Proof.Machine
end

