-- ==== Sys2Proof/Laws/Decode.lean ====
section
/-! SUPPORT. The fields of an encoding read back, and the general format peeled into its specifier and its operation byte. -/

namespace Sys2Proof

/-- A word from its two bytes. -/
@[simp] theorem Word.ofBytes_hi_lo (v : Word) : Word.ofBytes v.hi v.lo = v := by
  simp only [Word.ofBytes, Word.hi, Word.lo]
  ext i hi
  simp only [BitVec.getElem_append, BitVec.getElem_extractLsb']
  split
  · rw [BitVec.getElem_eq_testBit_toNat, BitVec.getLsbD_eq_getElem (by omega), BitVec.getElem_eq_testBit_toNat]
    simp
  · rw [BitVec.getLsbD_eq_getElem (by omega)]
    congr 1
    omega

/-- A big-endian field reads back (R112). -/
theorem need2_beBytes (v : Word) (r : List Byte) (k : Word → List Byte → Decoded) :
    need2 (v.beBytes ++ r) k = k v r := by
  simp [need2, need1, Word.beBytes]

/-- A little-endian field reads back (R400). -/
theorem needSub2_leBytes (v : Word) (r : List Byte) (k : Word → List Byte → Decoded) :
    needSub2 (v.leBytes ++ r) k = k v r := by
  simp [needSub2, need1, Word.leBytes]

/-- A specifier reads back, and the operation byte comes next (R113, R115). -/
theorem decode_specifier (ea : EA) (r : List Byte) : decode (ea.encode ++ r) = decodeGeneral ea r := by
  cases ea with
  | reg sz n => cases sz <;> cases n <;> rfl
  | preDec sz n => cases sz <;> cases n <;> rfl
  | postInc sz n => cases sz <;> cases n <;> rfl
  | ind sz n => cases sz <;> cases n <;> rfl
  | disp8 sz n d => cases sz <;> cases n <;> rfl
  | disp16 sz n d =>
    cases sz <;> cases n <;>
      exact congrArg (fun w => decodeGeneral (.disp16 _ _ w) r) (Word.ofBytes_hi_lo d)
  | abs8 sz a => cases sz <;> rfl
  | abs16 sz a => cases sz <;> exact congrArg (fun w => decodeGeneral (.abs16 _ w) r) (Word.ofBytes_hi_lo a)
  | imm8 v => rfl
  | imm16 v => exact congrArg (fun w => decodeGeneral (.imm16 w) r) (Word.ofBytes_hi_lo v)

/-- A combination that exists is an instruction (R120, R131). -/
theorem admit1_wf (ea : EA) (i : Instr) (r : List Byte) (h : i.wf = true) : admit1 ea i r = .ok i r := by
  simp [admit1, h]

end Sys2Proof
end

