-- ==== Sys2Proof/Laws/PerInstr.lean ====
section
/-! SUPPORT. Statements about every instruction as syntax, one lemma for each constructor. -/

namespace Sys2Proof.Laws.Length

/-- An instruction is 1 to 6 bytes (spec/30_encoding.md R110, R125). -/
def Statement (i : Instr) : Prop := i.wf = true → 1 ≤ (encode i).length ∧ (encode i).length ≤ 6

end Sys2Proof.Laws.Length

namespace Sys2Proof.Laws

/-- A specifier is 1 to 3 bytes (R113), what follows it at most 3 (R125). -/
theorem general_length (ea : EA) (tail : List Byte) (h : tail.length ≤ 3) :
    1 ≤ (ea.encode ++ tail).length ∧ (ea.encode ++ tail).length ≤ 6 := by
  rw [List.length_append]
  cases ea <;> simp [EA.encode, Word.beBytes] <;> omega

/-- An opcode byte and the operand bytes of a SUB8 mode (R405). -/
theorem mode_length (ops : SubOps) (m : SubMode) :
    1 ≤ (encodeMode ops m).length ∧ (encodeMode ops m).length ≤ 6 := by
  cases m <;> simp [encodeMode, SubMode.bytes, Word.leBytes]

/-- An instruction of the bit families (R465 to R468). -/
theorem bit_length (a b : Nat) (i : BitVec 3) (o : SubBitOperand) (tail : List Byte) (h : tail.length ≤ 1) :
    1 ≤ (encodeBit a b i o tail).length ∧ (encodeBit a b i o tail).length ≤ 6 := by
  cases o <;> simp [encodeBit] <;> omega

/-- A conditional branch (R300). -/
theorem bcc_length (cc : Nat) (d : Disp) : 1 ≤ (encodeBcc cc d).length ∧ (encodeBcc cc d).length ≤ 6 := by
  cases d <;> simp [encodeBcc, Word.beBytes]

/-- A jump through a register (R122). -/
theorem jump_length (base : Nat) (t : JumpEA) : 1 ≤ (encodeJump base t).length ∧ (encodeJump base t).length ≤ 6 := by
  cases t <;> simp [encodeJump, Word.beBytes]

end Sys2Proof.Laws

theorem Sys2Proof.Laws.Length.eaReg (sz : Size) (n : Reg) : Sys2Proof.Laws.Length.Statement (.eaReg sz n) := fun _ => general_length (EA.reg sz n) _ (Nat.le_of_ble_eq_true rfl)

theorem Sys2Proof.Laws.Length.eaPreDec (sz : Size) (n : Reg) : Sys2Proof.Laws.Length.Statement (.eaPreDec sz n) := fun _ => general_length (EA.preDec sz n) _ (Nat.le_of_ble_eq_true rfl)

theorem Sys2Proof.Laws.Length.eaPostInc (sz : Size) (n : Reg) : Sys2Proof.Laws.Length.Statement (.eaPostInc sz n) := fun _ => general_length (EA.postInc sz n) _ (Nat.le_of_ble_eq_true rfl)

theorem Sys2Proof.Laws.Length.eaInd (sz : Size) (n : Reg) : Sys2Proof.Laws.Length.Statement (.eaInd sz n) := fun _ => general_length (EA.ind sz n) _ (Nat.le_of_ble_eq_true rfl)

theorem Sys2Proof.Laws.Length.eaDisp8 (sz : Size) (n : Reg) (d : Byte) : Sys2Proof.Laws.Length.Statement (.eaDisp8 sz n d) := fun _ => general_length (EA.disp8 sz n d) _ (Nat.le_of_ble_eq_true rfl)

theorem Sys2Proof.Laws.Length.eaDisp16 (sz : Size) (n : Reg) (d : Word) : Sys2Proof.Laws.Length.Statement (.eaDisp16 sz n d) := fun _ => general_length (EA.disp16 sz n d) _ (Nat.le_of_ble_eq_true rfl)

theorem Sys2Proof.Laws.Length.eaAbs8 (sz : Size) (a : Byte) : Sys2Proof.Laws.Length.Statement (.eaAbs8 sz a) := fun _ => general_length (EA.abs8 sz a) _ (Nat.le_of_ble_eq_true rfl)

theorem Sys2Proof.Laws.Length.eaAbs16 (sz : Size) (a : Word) : Sys2Proof.Laws.Length.Statement (.eaAbs16 sz a) := fun _ => general_length (EA.abs16 sz a) _ (Nat.le_of_ble_eq_true rfl)

theorem Sys2Proof.Laws.Length.eaImm8 (v : Byte) : Sys2Proof.Laws.Length.Statement (.eaImm8 v) := fun _ => general_length (EA.imm8 v) _ (Nat.le_of_ble_eq_true rfl)

theorem Sys2Proof.Laws.Length.eaImm16 (v : Word) : Sys2Proof.Laws.Length.Statement (.eaImm16 v) := fun _ => general_length (EA.imm16 v) _ (Nat.le_of_ble_eq_true rfl)

theorem Sys2Proof.Laws.Length.movGLoad (ea : EA) (rd : Reg) : Sys2Proof.Laws.Length.Statement (.movGLoad ea rd) := fun _ => general_length ea _ (Nat.le_of_ble_eq_true rfl)

theorem Sys2Proof.Laws.Length.movGStore (rs : Reg) (ea : EA) : Sys2Proof.Laws.Length.Statement (.movGStore rs ea) := fun _ => general_length ea _ (Nat.le_of_ble_eq_true rfl)

theorem Sys2Proof.Laws.Length.movGImm8 (i : Byte) (ea : EA) : Sys2Proof.Laws.Length.Statement (.movGImm8 i ea) := fun _ => general_length ea _ (Nat.le_of_ble_eq_true rfl)

theorem Sys2Proof.Laws.Length.movGImm16 (i : Word) (ea : EA) : Sys2Proof.Laws.Length.Statement (.movGImm16 i ea) := fun _ => general_length ea _ (Nat.le_of_ble_eq_true rfl)

theorem Sys2Proof.Laws.Length.xch (rs : Reg) (ea : EA) : Sys2Proof.Laws.Length.Statement (.xch rs ea) := fun _ => general_length ea _ (Nat.le_of_ble_eq_true rfl)

theorem Sys2Proof.Laws.Length.swap (ea : EA) : Sys2Proof.Laws.Length.Statement (.swap ea) := fun _ => general_length ea _ (Nat.le_of_ble_eq_true rfl)

theorem Sys2Proof.Laws.Length.movE (i : Byte) (rd : Reg) : Sys2Proof.Laws.Length.Statement (.movE i rd) := fun _ => (by decide : 1 ≤ 2 ∧ 2 ≤ 6)

theorem Sys2Proof.Laws.Length.movI (i : Word) (rd : Reg) : Sys2Proof.Laws.Length.Statement (.movI i rd) := fun _ => (by decide : 1 ≤ 3 ∧ 3 ≤ 6)

theorem Sys2Proof.Laws.Length.movL (sz : Size) (a : Byte) (rd : Reg) : Sys2Proof.Laws.Length.Statement (.movL sz a rd) := fun _ => (by decide : 1 ≤ 2 ∧ 2 ≤ 6)

theorem Sys2Proof.Laws.Length.movS (sz : Size) (rs : Reg) (a : Byte) : Sys2Proof.Laws.Length.Statement (.movS sz rs a) := fun _ => (by decide : 1 ≤ 2 ∧ 2 ≤ 6)

theorem Sys2Proof.Laws.Length.movFLoad (sz : Size) (d : Byte) (rd : Reg) : Sys2Proof.Laws.Length.Statement (.movFLoad sz d rd) := fun _ => (by decide : 1 ≤ 2 ∧ 2 ≤ 6)

theorem Sys2Proof.Laws.Length.movFStore (sz : Size) (rs : Reg) (d : Byte) : Sys2Proof.Laws.Length.Statement (.movFStore sz rs d) := fun _ => (by decide : 1 ≤ 2 ∧ 2 ≤ 6)

theorem Sys2Proof.Laws.Length.ldm (list : Byte) : Sys2Proof.Laws.Length.Statement (.ldm list) := fun _ => (by decide : 1 ≤ 2 ∧ 2 ≤ 6)

theorem Sys2Proof.Laws.Length.stm (list : Byte) : Sys2Proof.Laws.Length.Statement (.stm list) := fun _ => (by decide : 1 ≤ 2 ∧ 2 ≤ 6)

theorem Sys2Proof.Laws.Length.addG (ea : EA) (rd : Reg) : Sys2Proof.Laws.Length.Statement (.addG ea rd) := fun _ => general_length ea _ (Nat.le_of_ble_eq_true rfl)

theorem Sys2Proof.Laws.Length.addQ (q : Quick) (ea : EA) : Sys2Proof.Laws.Length.Statement (.addQ q ea) := fun _ => general_length ea _ (Nat.le_of_ble_eq_true rfl)

theorem Sys2Proof.Laws.Length.addx (ea : EA) (rd : Reg) : Sys2Proof.Laws.Length.Statement (.addx ea rd) := fun _ => general_length ea _ (Nat.le_of_ble_eq_true rfl)

theorem Sys2Proof.Laws.Length.adds (ea : EA) (rd : Reg) : Sys2Proof.Laws.Length.Statement (.adds ea rd) := fun _ => general_length ea _ (Nat.le_of_ble_eq_true rfl)

theorem Sys2Proof.Laws.Length.sub (ea : EA) (rd : Reg) : Sys2Proof.Laws.Length.Statement (.sub ea rd) := fun _ => general_length ea _ (Nat.le_of_ble_eq_true rfl)

theorem Sys2Proof.Laws.Length.subs (ea : EA) (rd : Reg) : Sys2Proof.Laws.Length.Statement (.subs ea rd) := fun _ => general_length ea _ (Nat.le_of_ble_eq_true rfl)

theorem Sys2Proof.Laws.Length.subx (ea : EA) (rd : Reg) : Sys2Proof.Laws.Length.Statement (.subx ea rd) := fun _ => general_length ea _ (Nat.le_of_ble_eq_true rfl)

theorem Sys2Proof.Laws.Length.cmpG (ea : EA) (rd : Reg) : Sys2Proof.Laws.Length.Statement (.cmpG ea rd) := fun _ => general_length ea _ (Nat.le_of_ble_eq_true rfl)

theorem Sys2Proof.Laws.Length.cmpGImm8 (i : Byte) (ea : EA) : Sys2Proof.Laws.Length.Statement (.cmpGImm8 i ea) := fun _ => general_length ea _ (Nat.le_of_ble_eq_true rfl)

theorem Sys2Proof.Laws.Length.cmpGImm16 (i : Word) (ea : EA) : Sys2Proof.Laws.Length.Statement (.cmpGImm16 i ea) := fun _ => general_length ea _ (Nat.le_of_ble_eq_true rfl)

theorem Sys2Proof.Laws.Length.cmpE (i : Byte) (rd : Reg) : Sys2Proof.Laws.Length.Statement (.cmpE i rd) := fun _ => (by decide : 1 ≤ 2 ∧ 2 ≤ 6)

theorem Sys2Proof.Laws.Length.cmpI (i : Word) (rd : Reg) : Sys2Proof.Laws.Length.Statement (.cmpI i rd) := fun _ => (by decide : 1 ≤ 3 ∧ 3 ≤ 6)

theorem Sys2Proof.Laws.Length.mulxu (ea : EA) (rd : Reg) : Sys2Proof.Laws.Length.Statement (.mulxu ea rd) := fun _ => general_length ea _ (Nat.le_of_ble_eq_true rfl)

theorem Sys2Proof.Laws.Length.divxu (ea : EA) (rd : Reg) : Sys2Proof.Laws.Length.Statement (.divxu ea rd) := fun _ => general_length ea _ (Nat.le_of_ble_eq_true rfl)

theorem Sys2Proof.Laws.Length.exts (ea : EA) : Sys2Proof.Laws.Length.Statement (.exts ea) := fun _ => general_length ea _ (Nat.le_of_ble_eq_true rfl)

theorem Sys2Proof.Laws.Length.extu (ea : EA) : Sys2Proof.Laws.Length.Statement (.extu ea) := fun _ => general_length ea _ (Nat.le_of_ble_eq_true rfl)

theorem Sys2Proof.Laws.Length.clr (ea : EA) : Sys2Proof.Laws.Length.Statement (.clr ea) := fun _ => general_length ea _ (Nat.le_of_ble_eq_true rfl)

theorem Sys2Proof.Laws.Length.neg (ea : EA) : Sys2Proof.Laws.Length.Statement (.neg ea) := fun _ => general_length ea _ (Nat.le_of_ble_eq_true rfl)

theorem Sys2Proof.Laws.Length.tst (ea : EA) : Sys2Proof.Laws.Length.Statement (.tst ea) := fun _ => general_length ea _ (Nat.le_of_ble_eq_true rfl)

theorem Sys2Proof.Laws.Length.tas (ea : EA) : Sys2Proof.Laws.Length.Statement (.tas ea) := fun _ => general_length ea _ (Nat.le_of_ble_eq_true rfl)

theorem Sys2Proof.Laws.Length.and (ea : EA) (rd : Reg) : Sys2Proof.Laws.Length.Statement (.and ea rd) := fun _ => general_length ea _ (Nat.le_of_ble_eq_true rfl)

theorem Sys2Proof.Laws.Length.or (ea : EA) (rd : Reg) : Sys2Proof.Laws.Length.Statement (.or ea rd) := fun _ => general_length ea _ (Nat.le_of_ble_eq_true rfl)

theorem Sys2Proof.Laws.Length.xor (ea : EA) (rd : Reg) : Sys2Proof.Laws.Length.Statement (.xor ea rd) := fun _ => general_length ea _ (Nat.le_of_ble_eq_true rfl)

theorem Sys2Proof.Laws.Length.not (ea : EA) : Sys2Proof.Laws.Length.Statement (.not ea) := fun _ => general_length ea _ (Nat.le_of_ble_eq_true rfl)

theorem Sys2Proof.Laws.Length.shal (ea : EA) : Sys2Proof.Laws.Length.Statement (.shal ea) := fun _ => general_length ea _ (Nat.le_of_ble_eq_true rfl)

theorem Sys2Proof.Laws.Length.shar (ea : EA) : Sys2Proof.Laws.Length.Statement (.shar ea) := fun _ => general_length ea _ (Nat.le_of_ble_eq_true rfl)

theorem Sys2Proof.Laws.Length.shll (ea : EA) : Sys2Proof.Laws.Length.Statement (.shll ea) := fun _ => general_length ea _ (Nat.le_of_ble_eq_true rfl)

theorem Sys2Proof.Laws.Length.shlr (ea : EA) : Sys2Proof.Laws.Length.Statement (.shlr ea) := fun _ => general_length ea _ (Nat.le_of_ble_eq_true rfl)

theorem Sys2Proof.Laws.Length.rotl (ea : EA) : Sys2Proof.Laws.Length.Statement (.rotl ea) := fun _ => general_length ea _ (Nat.le_of_ble_eq_true rfl)

theorem Sys2Proof.Laws.Length.rotr (ea : EA) : Sys2Proof.Laws.Length.Statement (.rotr ea) := fun _ => general_length ea _ (Nat.le_of_ble_eq_true rfl)

theorem Sys2Proof.Laws.Length.rotxl (ea : EA) : Sys2Proof.Laws.Length.Statement (.rotxl ea) := fun _ => general_length ea _ (Nat.le_of_ble_eq_true rfl)

theorem Sys2Proof.Laws.Length.rotxr (ea : EA) : Sys2Proof.Laws.Length.Statement (.rotxr ea) := fun _ => general_length ea _ (Nat.le_of_ble_eq_true rfl)

theorem Sys2Proof.Laws.Length.bsetI (b : BitVec 4) (ea : EA) : Sys2Proof.Laws.Length.Statement (.bsetI b ea) := fun _ => general_length ea _ (Nat.le_of_ble_eq_true rfl)

theorem Sys2Proof.Laws.Length.bsetR (rs : Reg) (ea : EA) : Sys2Proof.Laws.Length.Statement (.bsetR rs ea) := fun _ => general_length ea _ (Nat.le_of_ble_eq_true rfl)

theorem Sys2Proof.Laws.Length.bclrI (b : BitVec 4) (ea : EA) : Sys2Proof.Laws.Length.Statement (.bclrI b ea) := fun _ => general_length ea _ (Nat.le_of_ble_eq_true rfl)

theorem Sys2Proof.Laws.Length.bclrR (rs : Reg) (ea : EA) : Sys2Proof.Laws.Length.Statement (.bclrR rs ea) := fun _ => general_length ea _ (Nat.le_of_ble_eq_true rfl)

theorem Sys2Proof.Laws.Length.bnotI (b : BitVec 4) (ea : EA) : Sys2Proof.Laws.Length.Statement (.bnotI b ea) := fun _ => general_length ea _ (Nat.le_of_ble_eq_true rfl)

theorem Sys2Proof.Laws.Length.bnotR (rs : Reg) (ea : EA) : Sys2Proof.Laws.Length.Statement (.bnotR rs ea) := fun _ => general_length ea _ (Nat.le_of_ble_eq_true rfl)

theorem Sys2Proof.Laws.Length.btstI (b : BitVec 4) (ea : EA) : Sys2Proof.Laws.Length.Statement (.btstI b ea) := fun _ => general_length ea _ (Nat.le_of_ble_eq_true rfl)

theorem Sys2Proof.Laws.Length.btstR (rs : Reg) (ea : EA) : Sys2Proof.Laws.Length.Statement (.btstR rs ea) := fun _ => general_length ea _ (Nat.le_of_ble_eq_true rfl)

theorem Sys2Proof.Laws.Length.bra (d : Disp) : Sys2Proof.Laws.Length.Statement (.bra d) := fun _ => bcc_length _ d

theorem Sys2Proof.Laws.Length.brn (d : Disp) : Sys2Proof.Laws.Length.Statement (.brn d) := fun _ => bcc_length _ d

theorem Sys2Proof.Laws.Length.bhi (d : Disp) : Sys2Proof.Laws.Length.Statement (.bhi d) := fun _ => bcc_length _ d

theorem Sys2Proof.Laws.Length.bls (d : Disp) : Sys2Proof.Laws.Length.Statement (.bls d) := fun _ => bcc_length _ d

theorem Sys2Proof.Laws.Length.bcc (d : Disp) : Sys2Proof.Laws.Length.Statement (.bcc d) := fun _ => bcc_length _ d

theorem Sys2Proof.Laws.Length.bcs (d : Disp) : Sys2Proof.Laws.Length.Statement (.bcs d) := fun _ => bcc_length _ d

theorem Sys2Proof.Laws.Length.bne (d : Disp) : Sys2Proof.Laws.Length.Statement (.bne d) := fun _ => bcc_length _ d

theorem Sys2Proof.Laws.Length.beq (d : Disp) : Sys2Proof.Laws.Length.Statement (.beq d) := fun _ => bcc_length _ d

theorem Sys2Proof.Laws.Length.bvc (d : Disp) : Sys2Proof.Laws.Length.Statement (.bvc d) := fun _ => bcc_length _ d

theorem Sys2Proof.Laws.Length.bvs (d : Disp) : Sys2Proof.Laws.Length.Statement (.bvs d) := fun _ => bcc_length _ d

theorem Sys2Proof.Laws.Length.bpl (d : Disp) : Sys2Proof.Laws.Length.Statement (.bpl d) := fun _ => bcc_length _ d

theorem Sys2Proof.Laws.Length.bmi (d : Disp) : Sys2Proof.Laws.Length.Statement (.bmi d) := fun _ => bcc_length _ d

theorem Sys2Proof.Laws.Length.bge (d : Disp) : Sys2Proof.Laws.Length.Statement (.bge d) := fun _ => bcc_length _ d

theorem Sys2Proof.Laws.Length.blt (d : Disp) : Sys2Proof.Laws.Length.Statement (.blt d) := fun _ => bcc_length _ d

theorem Sys2Proof.Laws.Length.bgt (d : Disp) : Sys2Proof.Laws.Length.Statement (.bgt d) := fun _ => bcc_length _ d

theorem Sys2Proof.Laws.Length.ble (d : Disp) : Sys2Proof.Laws.Length.Statement (.ble d) := fun _ => bcc_length _ d

theorem Sys2Proof.Laws.Length.bsr (d : Disp) : Sys2Proof.Laws.Length.Statement (.bsr d) := fun _ => match d with
  | .d8 _ => (by decide : 1 ≤ 2 ∧ 2 ≤ 6)
  | .d16 _ => (by decide : 1 ≤ 3 ∧ 3 ≤ 6)

theorem Sys2Proof.Laws.Length.jmpAbs (a : Word) : Sys2Proof.Laws.Length.Statement (.jmpAbs a) := fun _ => (by decide : 1 ≤ 3 ∧ 3 ≤ 6)

theorem Sys2Proof.Laws.Length.jmpInd (t : JumpEA) : Sys2Proof.Laws.Length.Statement (.jmpInd t) := fun _ => jump_length _ t

theorem Sys2Proof.Laws.Length.jsrAbs (a : Word) : Sys2Proof.Laws.Length.Statement (.jsrAbs a) := fun _ => (by decide : 1 ≤ 3 ∧ 3 ≤ 6)

theorem Sys2Proof.Laws.Length.jsrInd (t : JumpEA) : Sys2Proof.Laws.Length.Statement (.jsrInd t) := fun _ => jump_length _ t

theorem Sys2Proof.Laws.Length.pjmpAbs (p : Byte) (a : Word) : Sys2Proof.Laws.Length.Statement (.pjmpAbs p a) := fun _ => (by decide : 1 ≤ 4 ∧ 4 ≤ 6)

theorem Sys2Proof.Laws.Length.pjmpInd (n : Reg) : Sys2Proof.Laws.Length.Statement (.pjmpInd n) := fun _ => (by decide : 1 ≤ 2 ∧ 2 ≤ 6)

theorem Sys2Proof.Laws.Length.pjsrAbs (p : Byte) (a : Word) : Sys2Proof.Laws.Length.Statement (.pjsrAbs p a) := fun _ => (by decide : 1 ≤ 4 ∧ 4 ≤ 6)

theorem Sys2Proof.Laws.Length.pjsrInd (n : Reg) : Sys2Proof.Laws.Length.Statement (.pjsrInd n) := fun _ => (by decide : 1 ≤ 2 ∧ 2 ≤ 6)

theorem Sys2Proof.Laws.Length.rts : Sys2Proof.Laws.Length.Statement .rts := fun _ => (by decide : 1 ≤ 1 ∧ 1 ≤ 6)

theorem Sys2Proof.Laws.Length.prts : Sys2Proof.Laws.Length.Statement .prts := fun _ => (by decide : 1 ≤ 2 ∧ 2 ≤ 6)

theorem Sys2Proof.Laws.Length.rtd (i : Imm) : Sys2Proof.Laws.Length.Statement (.rtd i) := fun _ => match i with
  | .i8 _ => (by decide : 1 ≤ 2 ∧ 2 ≤ 6)
  | .i16 _ => (by decide : 1 ≤ 3 ∧ 3 ≤ 6)

theorem Sys2Proof.Laws.Length.prtd (i : Imm) : Sys2Proof.Laws.Length.Statement (.prtd i) := fun _ => match i with
  | .i8 _ => (by decide : 1 ≤ 3 ∧ 3 ≤ 6)
  | .i16 _ => (by decide : 1 ≤ 4 ∧ 4 ≤ 6)

theorem Sys2Proof.Laws.Length.scbF (rc : Reg) (d : Byte) : Sys2Proof.Laws.Length.Statement (.scbF rc d) := fun _ => (by decide : 1 ≤ 3 ∧ 3 ≤ 6)

theorem Sys2Proof.Laws.Length.scbNe (rc : Reg) (d : Byte) : Sys2Proof.Laws.Length.Statement (.scbNe rc d) := fun _ => (by decide : 1 ≤ 3 ∧ 3 ≤ 6)

theorem Sys2Proof.Laws.Length.scbEq (rc : Reg) (d : Byte) : Sys2Proof.Laws.Length.Statement (.scbEq rc d) := fun _ => (by decide : 1 ≤ 3 ∧ 3 ≤ 6)

theorem Sys2Proof.Laws.Length.link (i : Imm) : Sys2Proof.Laws.Length.Statement (.link i) := fun _ => match i with
  | .i8 _ => (by decide : 1 ≤ 2 ∧ 2 ≤ 6)
  | .i16 _ => (by decide : 1 ≤ 3 ∧ 3 ≤ 6)

theorem Sys2Proof.Laws.Length.unlk : Sys2Proof.Laws.Length.Statement .unlk := fun _ => (by decide : 1 ≤ 1 ∧ 1 ≤ 6)

theorem Sys2Proof.Laws.Length.ldc (ea : EA) (cr : CReg) : Sys2Proof.Laws.Length.Statement (.ldc ea cr) := fun _ => general_length ea _ (Nat.le_of_ble_eq_true rfl)

theorem Sys2Proof.Laws.Length.stc (cr : CReg) (ea : EA) : Sys2Proof.Laws.Length.Statement (.stc cr ea) := fun _ => general_length ea _ (Nat.le_of_ble_eq_true rfl)

theorem Sys2Proof.Laws.Length.andc (ea : EA) (cr : CReg) : Sys2Proof.Laws.Length.Statement (.andc ea cr) := fun _ => general_length ea _ (Nat.le_of_ble_eq_true rfl)

theorem Sys2Proof.Laws.Length.orc (ea : EA) (cr : CReg) : Sys2Proof.Laws.Length.Statement (.orc ea cr) := fun _ => general_length ea _ (Nat.le_of_ble_eq_true rfl)

theorem Sys2Proof.Laws.Length.xorc (ea : EA) (cr : CReg) : Sys2Proof.Laws.Length.Statement (.xorc ea cr) := fun _ => general_length ea _ (Nat.le_of_ble_eq_true rfl)

theorem Sys2Proof.Laws.Length.trapa (n : BitVec 4) : Sys2Proof.Laws.Length.Statement (.trapa n) := fun _ => (by decide : 1 ≤ 2 ∧ 2 ≤ 6)

theorem Sys2Proof.Laws.Length.rte : Sys2Proof.Laws.Length.Statement .rte := fun _ => (by decide : 1 ≤ 1 ∧ 1 ≤ 6)

theorem Sys2Proof.Laws.Length.sleep : Sys2Proof.Laws.Length.Statement .sleep := fun _ => (by decide : 1 ≤ 1 ∧ 1 ≤ 6)

theorem Sys2Proof.Laws.Length.nop : Sys2Proof.Laws.Length.Statement .nop := fun _ => (by decide : 1 ≤ 1 ∧ 1 ≤ 6)

theorem Sys2Proof.Laws.Length.s8Lda (m : SubMode) : Sys2Proof.Laws.Length.Statement (.s8Lda m) := fun _ => mode_length _ m

theorem Sys2Proof.Laws.Length.s8Ldx (m : SubMode) : Sys2Proof.Laws.Length.Statement (.s8Ldx m) := fun _ => mode_length _ m

theorem Sys2Proof.Laws.Length.s8Ldy (m : SubMode) : Sys2Proof.Laws.Length.Statement (.s8Ldy m) := fun _ => mode_length _ m

theorem Sys2Proof.Laws.Length.s8Sta (m : SubMode) : Sys2Proof.Laws.Length.Statement (.s8Sta m) := fun _ => mode_length _ m

theorem Sys2Proof.Laws.Length.s8Stx (m : SubMode) : Sys2Proof.Laws.Length.Statement (.s8Stx m) := fun _ => mode_length _ m

theorem Sys2Proof.Laws.Length.s8Sty (m : SubMode) : Sys2Proof.Laws.Length.Statement (.s8Sty m) := fun _ => mode_length _ m

theorem Sys2Proof.Laws.Length.s8Ldm (n z : Byte) : Sys2Proof.Laws.Length.Statement (.s8Ldm n z) := fun _ => (by decide : 1 ≤ 3 ∧ 3 ≤ 6)

theorem Sys2Proof.Laws.Length.s8Tax : Sys2Proof.Laws.Length.Statement .s8Tax := fun _ => (by decide : 1 ≤ 1 ∧ 1 ≤ 6)

theorem Sys2Proof.Laws.Length.s8Txa : Sys2Proof.Laws.Length.Statement .s8Txa := fun _ => (by decide : 1 ≤ 1 ∧ 1 ≤ 6)

theorem Sys2Proof.Laws.Length.s8Tay : Sys2Proof.Laws.Length.Statement .s8Tay := fun _ => (by decide : 1 ≤ 1 ∧ 1 ≤ 6)

theorem Sys2Proof.Laws.Length.s8Tya : Sys2Proof.Laws.Length.Statement .s8Tya := fun _ => (by decide : 1 ≤ 1 ∧ 1 ≤ 6)

theorem Sys2Proof.Laws.Length.s8Tsx : Sys2Proof.Laws.Length.Statement .s8Tsx := fun _ => (by decide : 1 ≤ 1 ∧ 1 ≤ 6)

theorem Sys2Proof.Laws.Length.s8Txs : Sys2Proof.Laws.Length.Statement .s8Txs := fun _ => (by decide : 1 ≤ 1 ∧ 1 ≤ 6)

theorem Sys2Proof.Laws.Length.s8Pha : Sys2Proof.Laws.Length.Statement .s8Pha := fun _ => (by decide : 1 ≤ 1 ∧ 1 ≤ 6)

theorem Sys2Proof.Laws.Length.s8Pla : Sys2Proof.Laws.Length.Statement .s8Pla := fun _ => (by decide : 1 ≤ 1 ∧ 1 ≤ 6)

theorem Sys2Proof.Laws.Length.s8Php : Sys2Proof.Laws.Length.Statement .s8Php := fun _ => (by decide : 1 ≤ 1 ∧ 1 ≤ 6)

theorem Sys2Proof.Laws.Length.s8Plp : Sys2Proof.Laws.Length.Statement .s8Plp := fun _ => (by decide : 1 ≤ 1 ∧ 1 ≤ 6)

theorem Sys2Proof.Laws.Length.s8Adc (m : SubMode) : Sys2Proof.Laws.Length.Statement (.s8Adc m) := fun _ => mode_length _ m

theorem Sys2Proof.Laws.Length.s8Sbc (m : SubMode) : Sys2Proof.Laws.Length.Statement (.s8Sbc m) := fun _ => mode_length _ m

theorem Sys2Proof.Laws.Length.s8Cmp (m : SubMode) : Sys2Proof.Laws.Length.Statement (.s8Cmp m) := fun _ => mode_length _ m

theorem Sys2Proof.Laws.Length.s8Cpx (m : SubMode) : Sys2Proof.Laws.Length.Statement (.s8Cpx m) := fun _ => mode_length _ m

theorem Sys2Proof.Laws.Length.s8Cpy (m : SubMode) : Sys2Proof.Laws.Length.Statement (.s8Cpy m) := fun _ => mode_length _ m

theorem Sys2Proof.Laws.Length.s8Inc (m : SubMode) : Sys2Proof.Laws.Length.Statement (.s8Inc m) := fun _ => mode_length _ m

theorem Sys2Proof.Laws.Length.s8Dec (m : SubMode) : Sys2Proof.Laws.Length.Statement (.s8Dec m) := fun _ => mode_length _ m

theorem Sys2Proof.Laws.Length.s8Inx : Sys2Proof.Laws.Length.Statement .s8Inx := fun _ => (by decide : 1 ≤ 1 ∧ 1 ≤ 6)

theorem Sys2Proof.Laws.Length.s8Iny : Sys2Proof.Laws.Length.Statement .s8Iny := fun _ => (by decide : 1 ≤ 1 ∧ 1 ≤ 6)

theorem Sys2Proof.Laws.Length.s8Dex : Sys2Proof.Laws.Length.Statement .s8Dex := fun _ => (by decide : 1 ≤ 1 ∧ 1 ≤ 6)

theorem Sys2Proof.Laws.Length.s8Dey : Sys2Proof.Laws.Length.Statement .s8Dey := fun _ => (by decide : 1 ≤ 1 ∧ 1 ≤ 6)

theorem Sys2Proof.Laws.Length.s8And (m : SubMode) : Sys2Proof.Laws.Length.Statement (.s8And m) := fun _ => mode_length _ m

theorem Sys2Proof.Laws.Length.s8Ora (m : SubMode) : Sys2Proof.Laws.Length.Statement (.s8Ora m) := fun _ => mode_length _ m

theorem Sys2Proof.Laws.Length.s8Eor (m : SubMode) : Sys2Proof.Laws.Length.Statement (.s8Eor m) := fun _ => mode_length _ m

theorem Sys2Proof.Laws.Length.s8Bit (m : SubMode) : Sys2Proof.Laws.Length.Statement (.s8Bit m) := fun _ => mode_length _ m

theorem Sys2Proof.Laws.Length.s8Asl (m : SubMode) : Sys2Proof.Laws.Length.Statement (.s8Asl m) := fun _ => mode_length _ m

theorem Sys2Proof.Laws.Length.s8Lsr (m : SubMode) : Sys2Proof.Laws.Length.Statement (.s8Lsr m) := fun _ => mode_length _ m

theorem Sys2Proof.Laws.Length.s8Rol (m : SubMode) : Sys2Proof.Laws.Length.Statement (.s8Rol m) := fun _ => mode_length _ m

theorem Sys2Proof.Laws.Length.s8Ror (m : SubMode) : Sys2Proof.Laws.Length.Statement (.s8Ror m) := fun _ => mode_length _ m

theorem Sys2Proof.Laws.Length.s8Bpl (r : Byte) : Sys2Proof.Laws.Length.Statement (.s8Bpl r) := fun _ => (by decide : 1 ≤ 2 ∧ 2 ≤ 6)

theorem Sys2Proof.Laws.Length.s8Bmi (r : Byte) : Sys2Proof.Laws.Length.Statement (.s8Bmi r) := fun _ => (by decide : 1 ≤ 2 ∧ 2 ≤ 6)

theorem Sys2Proof.Laws.Length.s8Bvc (r : Byte) : Sys2Proof.Laws.Length.Statement (.s8Bvc r) := fun _ => (by decide : 1 ≤ 2 ∧ 2 ≤ 6)

theorem Sys2Proof.Laws.Length.s8Bvs (r : Byte) : Sys2Proof.Laws.Length.Statement (.s8Bvs r) := fun _ => (by decide : 1 ≤ 2 ∧ 2 ≤ 6)

theorem Sys2Proof.Laws.Length.s8Bcc (r : Byte) : Sys2Proof.Laws.Length.Statement (.s8Bcc r) := fun _ => (by decide : 1 ≤ 2 ∧ 2 ≤ 6)

theorem Sys2Proof.Laws.Length.s8Bcs (r : Byte) : Sys2Proof.Laws.Length.Statement (.s8Bcs r) := fun _ => (by decide : 1 ≤ 2 ∧ 2 ≤ 6)

theorem Sys2Proof.Laws.Length.s8Bne (r : Byte) : Sys2Proof.Laws.Length.Statement (.s8Bne r) := fun _ => (by decide : 1 ≤ 2 ∧ 2 ≤ 6)

theorem Sys2Proof.Laws.Length.s8Beq (r : Byte) : Sys2Proof.Laws.Length.Statement (.s8Beq r) := fun _ => (by decide : 1 ≤ 2 ∧ 2 ≤ 6)

theorem Sys2Proof.Laws.Length.s8Bra (r : Byte) : Sys2Proof.Laws.Length.Statement (.s8Bra r) := fun _ => (by decide : 1 ≤ 2 ∧ 2 ≤ 6)

theorem Sys2Proof.Laws.Length.s8JmpAbs (a : Word) : Sys2Proof.Laws.Length.Statement (.s8JmpAbs a) := fun _ => (by decide : 1 ≤ 3 ∧ 3 ≤ 6)

theorem Sys2Proof.Laws.Length.s8JmpInd (a : Word) : Sys2Proof.Laws.Length.Statement (.s8JmpInd a) := fun _ => (by decide : 1 ≤ 3 ∧ 3 ≤ 6)

theorem Sys2Proof.Laws.Length.s8Jsr (a : Word) : Sys2Proof.Laws.Length.Statement (.s8Jsr a) := fun _ => (by decide : 1 ≤ 3 ∧ 3 ≤ 6)

theorem Sys2Proof.Laws.Length.s8Rts : Sys2Proof.Laws.Length.Statement .s8Rts := fun _ => (by decide : 1 ≤ 1 ∧ 1 ≤ 6)

theorem Sys2Proof.Laws.Length.s8Rti : Sys2Proof.Laws.Length.Statement .s8Rti := fun _ => (by decide : 1 ≤ 1 ∧ 1 ≤ 6)

theorem Sys2Proof.Laws.Length.s8Brk : Sys2Proof.Laws.Length.Statement .s8Brk := fun _ => (by decide : 1 ≤ 1 ∧ 1 ≤ 6)

theorem Sys2Proof.Laws.Length.s8Bbs (i : BitVec 3) (o : SubBitOperand) (r : Byte) : Sys2Proof.Laws.Length.Statement (.s8Bbs i o r) := fun _ => bit_length _ _ i o _ (Nat.le_of_ble_eq_true rfl)

theorem Sys2Proof.Laws.Length.s8Bbc (i : BitVec 3) (o : SubBitOperand) (r : Byte) : Sys2Proof.Laws.Length.Statement (.s8Bbc i o r) := fun _ => bit_length _ _ i o _ (Nat.le_of_ble_eq_true rfl)

theorem Sys2Proof.Laws.Length.s8Seb (i : BitVec 3) (o : SubBitOperand) : Sys2Proof.Laws.Length.Statement (.s8Seb i o) := fun _ => bit_length _ _ i o _ (Nat.le_of_ble_eq_true rfl)

theorem Sys2Proof.Laws.Length.s8Clb (i : BitVec 3) (o : SubBitOperand) : Sys2Proof.Laws.Length.Statement (.s8Clb i o) := fun _ => bit_length _ _ i o _ (Nat.le_of_ble_eq_true rfl)

theorem Sys2Proof.Laws.Length.s8Nop : Sys2Proof.Laws.Length.Statement .s8Nop := fun _ => (by decide : 1 ≤ 1 ∧ 1 ≤ 6)

theorem Sys2Proof.Laws.Length.s8Clc : Sys2Proof.Laws.Length.Statement .s8Clc := fun _ => (by decide : 1 ≤ 1 ∧ 1 ≤ 6)

theorem Sys2Proof.Laws.Length.s8Sec : Sys2Proof.Laws.Length.Statement .s8Sec := fun _ => (by decide : 1 ≤ 1 ∧ 1 ≤ 6)

theorem Sys2Proof.Laws.Length.s8Cli : Sys2Proof.Laws.Length.Statement .s8Cli := fun _ => (by decide : 1 ≤ 1 ∧ 1 ≤ 6)

theorem Sys2Proof.Laws.Length.s8Sei : Sys2Proof.Laws.Length.Statement .s8Sei := fun _ => (by decide : 1 ≤ 1 ∧ 1 ≤ 6)

theorem Sys2Proof.Laws.Length.s8Clv : Sys2Proof.Laws.Length.Statement .s8Clv := fun _ => (by decide : 1 ≤ 1 ∧ 1 ≤ 6)

theorem Sys2Proof.Laws.Length.s8Cld : Sys2Proof.Laws.Length.Statement .s8Cld := fun _ => (by decide : 1 ≤ 1 ∧ 1 ≤ 6)

theorem Sys2Proof.Laws.Length.s8Clt : Sys2Proof.Laws.Length.Statement .s8Clt := fun _ => (by decide : 1 ≤ 1 ∧ 1 ≤ 6)
end

