-- ==== Sys2Proof/Laws/SubBus.lean ====
section
/-! SUPPORT. What an access of the sub core's bus can change, said once for each operation: a read changes only the link, and
there no shared byte; a write also the private RAM and the host's record. An access does not see the sub core's registers. -/

namespace Sys2Proof.Machine

variable (s : State)

/-- What a read of the sub core's bus can change. -/
def SubReadShape (s t : State) : Prop := ∃ l, t = { s with link := l } ∧ l.shram = s.link.shram

/-- What a write of the sub core's bus can change. -/
def SubWriteShape (s t : State) : Prop :=
  ∃ l ram o, t = { s with link := l, sub.ram := ram, model.hostOut := o }

theorem SubReadShape.refl : SubReadShape s s := ⟨_, rfl, rfl⟩

theorem SubWriteShape.refl : SubWriteShape s s := ⟨_, _, _, rfl⟩

theorem setUart_shram (l : Link) (c : Chan) (u : Uart) : (l.setUart c u).shram = l.shram := by cases c <;> rfl

theorem subRegRead_shape (r : SubDevReg) : SubReadShape s (subRegRead r s).2 := by
  cases r
  all_goals first
    | exact SubReadShape.refl s
    | exact ⟨_, rfl, setUart_shram _ _ _⟩
    | exact ⟨_, rfl, rfl⟩

theorem subDevRead_shape (i : Nat) : SubReadShape s (subDevRead i s).2 := by
  unfold subDevRead
  split
  · exact subRegRead_shape s _
  · exact SubReadShape.refl s

/-- Everything `subRead` can change. -/
theorem subRead_shape (a : Word) : SubReadShape s (subRead a s).2 := by
  unfold subRead
  split
  all_goals first
    | exact SubReadShape.refl s
    | exact subDevRead_shape s _
    | exact ⟨_, rfl, rfl⟩

theorem subDevWrite_shape (i : Nat) (v : Byte) : SubWriteShape s (subDevWrite i v s) := by
  unfold subDevWrite
  split
  next r _ => cases r <;> exact ⟨_, _, _, rfl⟩
  next => exact ⟨_, _, _, rfl⟩

/-- Everything `subWrite` can change. -/
theorem subWrite_shape (a : Word) (v : Byte) : SubWriteShape s (subWrite a v s) := by
  unfold subWrite
  split
  all_goals first
    | exact subDevWrite_shape s _ _
    | exact ⟨_, _, _, rfl⟩

/-! ## An access does not see the sub core's registers -/

/-- The sub core's registers replaced at once: A, X, Y, S, P, SPC. -/
def State.withSubRegs (s : State) (a x y t p : Byte) (pc : Word) : State :=
  { s with sub.a := a, sub.x := x, sub.y := y, sub.s := t, sub.p := p, sub.spc := pc }

theorem subRead_withSubRegs (e : Word) (a x y t p : Byte) (pc : Word) :
    subRead e (s.withSubRegs a x y t p pc) = ((subRead e s).1, (subRead e s).2.withSubRegs a x y t p pc) := by
  simp only [subRead]
  split
  next => rfl
  next => rfl
  next i _ =>
    simp only [subDevRead]
    have h : subDevReg (s.withSubRegs a x y t p pc).params i = subDevReg s.params i := rfl
    rw [h]
    split
    next r _ => cases r <;> rfl
    next => rfl
  next => rfl
  next => rfl
  next => rfl

theorem subWrite_withSubRegs (e : Word) (v : Byte) (a x y t p : Byte) (pc : Word) :
    subWrite e v (s.withSubRegs a x y t p pc) = (subWrite e v s).withSubRegs a x y t p pc := by
  simp only [subWrite]
  split
  next => rfl
  next => rfl
  next i _ =>
    simp only [subDevWrite]
    have h : subDevReg (s.withSubRegs a x y t p pc).params i = subDevReg s.params i := rfl
    rw [h]
    split
    next r _ => cases r <;> rfl
    next => rfl
  next => rfl
  next => rfl
  next => rfl

@[simp] theorem subRead_params (a : Word) : (subRead a s).2.params = s.params := by
  obtain ⟨l, h, -⟩ := subRead_shape s a
  rw [h]

@[simp] theorem subRead_cpu (a : Word) : (subRead a s).2.cpu = s.cpu := by
  obtain ⟨l, h, -⟩ := subRead_shape s a
  rw [h]

@[simp] theorem subRead_sub (a : Word) : (subRead a s).2.sub = s.sub := by
  obtain ⟨l, h, -⟩ := subRead_shape s a
  rw [h]

@[simp] theorem subRead_model (a : Word) : (subRead a s).2.model = s.model := by
  obtain ⟨l, h, -⟩ := subRead_shape s a
  rw [h]

@[simp] theorem subRead_shram (a : Word) : (subRead a s).2.link.shram = s.link.shram := by
  obtain ⟨l, h, hl⟩ := subRead_shape s a
  rw [h]
  exact hl

@[simp] theorem subWrite_params (a : Word) (v : Byte) : (subWrite a v s).params = s.params := by
  obtain ⟨l, ram, o, h⟩ := subWrite_shape s a v
  rw [h]

@[simp] theorem subWrite_cpu (a : Word) (v : Byte) : (subWrite a v s).cpu = s.cpu := by
  obtain ⟨l, ram, o, h⟩ := subWrite_shape s a v
  rw [h]

/-- Nothing of the sub core but its RAM changes in a write. -/
theorem subWrite_sub (a : Word) (v : Byte) : (subWrite a v s).sub = { s.sub with ram := (subWrite a v s).sub.ram } := by
  obtain ⟨l, ram, o, h⟩ := subWrite_shape s a v
  rw [h]

end Sys2Proof.Machine
end

