-- ==== Sys2Proof/Tests/Slice0.lean ====
section
/-! SUPPORT. Tests. The expected values are the spec's: the worked vectors of spec/95_test_vectors.md, the examples that
close the instruction rules, or bytes written out from the encoding tables; each section names its source. -/

open Sys2Proof Sys2Proof.Machine

set_option maxRecDepth 100000

namespace Sys2Proof.Tests

/-! ## Ill-formed terms are refused (30_encoding.md R120, R131, R350; 47_sub_core_isa.md) -/

theorem test_wf_refuses_classes_and_sizes :
    [Instr.mulxu (.reg .word .r1) .r3, .divxu (.imm16 0x0001#16) .r7, .movGStore .r0 (.reg .word .r1),
     .movGStore .r0 (.imm8 0x12#8), .xch .r1 (.reg .byte .r2), .xch .r1 (.ind .word .r2),
     .movGImm8 0x55#8 (.reg .byte .r0), .movGImm16 0x1234#16 (.ind .byte .r1), .movGImm16 0x1234#16 (.reg .word .r1),
     .cmpGImm8 0x05#8 (.ind .word .r2), .cmpGImm8 0x05#8 (.reg .byte .r2), .cmpGImm16 0x1000#16 (.abs16 .byte 0x9000#16),
     .addQ .plus1 (.imm8 0x01#8), .clr (.imm8 0x00#8), .neg (.imm16 0x0000#16), .not (.imm8 0x00#8),
     .tst (.imm8 0x00#8), .shal (.imm8 0x00#8), .rotxr (.imm16 0x0000#16), .tas (.ind .word .r1), .tas (.imm8 0x00#8),
     .swap (.reg .word .r0), .swap (.ind .byte .r1), .exts (.reg .word .r0), .extu (.imm8 0x12#8),
     .bsetI 3#4 (.imm8 0x00#8), .btstR .r0 (.imm8 0x00#8), .ldc (.imm8 0x00#8) .sr, .ldc (.imm16 0x0001#16) .dp,
     .stc .sr (.reg .byte .r0), .stc .br (.imm8 0x00#8), .andc (.reg .word .r0) .sr, .orc (.imm8 0x00#8) .sr,
     .xorc (.imm16 0x0001#16) .tp, .pjmpInd .r7, .pjsrInd .r7].all (fun i => !i.wf) = true := by decide

theorem test_wf_refuses_sub_modes :
    [Instr.s8Lda .acc, .s8Adc (.zpy 0x10#8), .s8Ldx (.zpx 0x10#8), .s8Ldy (.zpy 0x10#8), .s8Sta (.imm 0x10#8),
     .s8Stx (.zpx 0x10#8), .s8Sty (.zpy 0x10#8), .s8Cpx (.absx 0x0200#16), .s8Cpy (.indy 0x10#8), .s8Inc (.imm 0x10#8),
     .s8Ror (.absy 0x0200#16), .s8Bit (.imm 0x10#8)].all (fun i => !i.wf) = true := by decide

/-! ## Every constructor decodes from its bytes (30_encoding.md R113 to R123; 47_sub_core_isa.md R405 to R477) -/

/-- The bytes are the whole instruction. -/
def decodesTo (bs : List Byte) (i : Instr) : Bool := decode bs == .ok i [] && i.wf && !i.isSub8

/-- The same for SUB8. -/
def subDecodesTo (bs : List Byte) (i : Instr) : Bool := decodeSub bs == .ok i [] && i.wf && i.isSub8

/-- A specifier followed by an operation byte that no specifier admits. -/
def specifierOf (bs : List Byte) (i : Instr) : Bool := decode bs == .reservedOp i [] && i.isSpecifier

theorem test_decode_specifiers :
    specifierOf [0xA8#8, 0x00#8] (.eaReg .word .r0) && specifierOf [0xB9#8, 0x01#8] (.eaPreDec .word .r1) &&
    specifierOf [0xC1#8, 0x02#8] (.eaPostInc .byte .r1) && specifierOf [0xD7#8, 0x03#8] (.eaInd .byte .r7) &&
    specifierOf [0xEA#8, 0x7F#8, 0x0A#8] (.eaDisp8 .word .r2 0x7F#8) &&
    specifierOf [0xF9#8, 0x12#8, 0x34#8, 0x0B#8] (.eaDisp16 .word .r1 0x1234#16) &&
    specifierOf [0x05#8, 0x90#8, 0x0E#8] (.eaAbs8 .byte 0x90#8) &&
    specifierOf [0x1D#8, 0x90#8, 0x00#8, 0x0F#8] (.eaAbs16 .word 0x9000#16) &&
    specifierOf [0x04#8, 0x12#8, 0x90#8] (.eaImm8 0x12#8) &&
    specifierOf [0x0C#8, 0x12#8, 0x34#8, 0x00#8] (.eaImm16 0x1234#16) = true := by decide

theorem test_decode_transfer :
    decodesTo [0xD9#8, 0x82#8] (.movGLoad (.ind .word .r1) .r2) &&
    decodesTo [0xBF#8, 0x90#8] (.movGStore .r0 (.preDec .word .r7)) &&
    decodesTo [0x15#8, 0x12#8, 0x34#8, 0x06#8, 0x55#8] (.movGImm8 0x55#8 (.abs16 .byte 0x1234#16)) &&
    decodesTo [0xEE#8, 0x10#8, 0x07#8, 0x12#8, 0x34#8] (.movGImm16 0x1234#16 (.disp8 .word .r6 0x10#8)) &&
    decodesTo [0xAA#8, 0x91#8] (.xch .r1 (.reg .word .r2)) && decodesTo [0xA0#8, 0x10#8] (.swap (.reg .byte .r0)) &&
    decodesTo [0x53#8, 0x80#8] (.movE 0x80#8 .r3) && decodesTo [0x5F#8, 0xFB#8, 0x80#8] (.movI 0xFB80#16 .r7) &&
    decodesTo [0x60#8, 0x90#8] (.movL .byte 0x90#8 .r0) && decodesTo [0x79#8, 0x92#8] (.movS .word .r1 0x92#8) &&
    decodesTo [0x88#8, 0xFE#8] (.movFLoad .word 0xFE#8 .r0) && decodesTo [0x92#8, 0x04#8] (.movFStore .byte .r2 0x04#8) &&
    decodesTo [0x02#8, 0x03#8] (.ldm 0x03#8) && decodesTo [0x12#8, 0x03#8] (.stm 0x03#8) = true := by decide

theorem test_decode_arithmetic :
    decodesTo [0xA9#8, 0x22#8] (.addG (.reg .word .r1) .r2) && decodesTo [0xAB#8, 0x08#8] (.addQ .plus1 (.reg .word .r3)) &&
    decodesTo [0xA8#8, 0x09#8] (.addQ .plus2 (.reg .word .r0)) && decodesTo [0xD0#8, 0x0C#8] (.addQ .minus1 (.ind .byte .r0)) &&
    decodesTo [0xA8#8, 0x0D#8] (.addQ .minus2 (.reg .word .r0)) && decodesTo [0xA1#8, 0xA0#8] (.addx (.reg .byte .r1) .r0) &&
    decodesTo [0x04#8, 0xFE#8, 0x2C#8] (.adds (.imm8 0xFE#8) .r4) && decodesTo [0xC8#8, 0x31#8] (.sub (.postInc .word .r0) .r1) &&
    decodesTo [0x0C#8, 0x00#8, 0x02#8, 0x3F#8] (.subs (.imm16 0x0002#16) .r7) &&
    decodesTo [0xA1#8, 0xB0#8] (.subx (.reg .byte .r1) .r0) && decodesTo [0xA9#8, 0x70#8] (.cmpG (.reg .word .r1) .r0) &&
    decodesTo [0xD2#8, 0x04#8, 0x05#8] (.cmpGImm8 0x05#8 (.ind .byte .r2)) &&
    decodesTo [0x1D#8, 0x90#8, 0x00#8, 0x05#8, 0x10#8, 0x00#8] (.cmpGImm16 0x1000#16 (.abs16 .word 0x9000#16)) &&
    decodesTo [0x40#8, 0x10#8] (.cmpE 0x10#8 .r0) && decodesTo [0x49#8, 0x12#8, 0x34#8] (.cmpI 0x1234#16 .r1) &&
    decodesTo [0xA1#8, 0xA8#8] (.mulxu (.reg .byte .r1) .r0) && decodesTo [0xA1#8, 0xB8#8] (.divxu (.reg .byte .r1) .r0) &&
    decodesTo [0xA0#8, 0x11#8] (.exts (.reg .byte .r0)) && decodesTo [0xA0#8, 0x12#8] (.extu (.reg .byte .r0)) &&
    decodesTo [0xD9#8, 0x13#8] (.clr (.ind .word .r1)) && decodesTo [0xA0#8, 0x14#8] (.neg (.reg .byte .r0)) &&
    decodesTo [0xA8#8, 0x16#8] (.tst (.reg .word .r0)) && decodesTo [0xD0#8, 0x17#8] (.tas (.ind .byte .r0)) = true := by
  decide

theorem test_decode_logic :
    decodesTo [0x04#8, 0x0F#8, 0x50#8] (.and (.imm8 0x0F#8) .r0) && decodesTo [0xA9#8, 0x42#8] (.or (.reg .word .r1) .r2) &&
    decodesTo [0xD8#8, 0x61#8] (.xor (.ind .word .r0) .r1) && decodesTo [0xA0#8, 0x15#8] (.not (.reg .byte .r0)) &&
    decodesTo [0xA0#8, 0x18#8] (.shal (.reg .byte .r0)) && decodesTo [0xA0#8, 0x19#8] (.shar (.reg .byte .r0)) &&
    decodesTo [0xA9#8, 0x1A#8] (.shll (.reg .word .r1)) && decodesTo [0xA0#8, 0x1B#8] (.shlr (.reg .byte .r0)) &&
    decodesTo [0xA0#8, 0x1C#8] (.rotl (.reg .byte .r0)) && decodesTo [0xA0#8, 0x1D#8] (.rotr (.reg .byte .r0)) &&
    decodesTo [0xA0#8, 0x1E#8] (.rotxl (.reg .byte .r0)) && decodesTo [0xA8#8, 0x1F#8] (.rotxr (.reg .word .r0)) &&
    decodesTo [0xD0#8, 0xC3#8] (.bsetI 3#4 (.ind .byte .r0)) && decodesTo [0xD0#8, 0x49#8] (.bsetR .r1 (.ind .byte .r0)) &&
    decodesTo [0x05#8, 0x90#8, 0xD0#8] (.bclrI 0#4 (.abs8 .byte 0x90#8)) &&
    decodesTo [0xAB#8, 0x5A#8] (.bclrR .r2 (.reg .word .r3)) && decodesTo [0xA0#8, 0xE1#8] (.bnotI 1#4 (.reg .byte .r0)) &&
    decodesTo [0xA0#8, 0x69#8] (.bnotR .r1 (.reg .byte .r0)) && decodesTo [0xD1#8, 0xF7#8] (.btstI 7#4 (.ind .byte .r1)) &&
    decodesTo [0xA8#8, 0x79#8] (.btstR .r1 (.reg .word .r0)) = true := by decide

theorem test_decode_branches :
    decodesTo [0x20#8, 0xFE#8] (.bra (.d8 0xFE#8)) && decodesTo [0x31#8, 0x01#8, 0x00#8] (.brn (.d16 0x0100#16)) &&
    decodesTo [0x22#8, 0x10#8] (.bhi (.d8 0x10#8)) && decodesTo [0x33#8, 0x01#8, 0x00#8] (.bls (.d16 0x0100#16)) &&
    decodesTo [0x24#8, 0x10#8] (.bcc (.d8 0x10#8)) && decodesTo [0x35#8, 0x01#8, 0x00#8] (.bcs (.d16 0x0100#16)) &&
    decodesTo [0x26#8, 0x10#8] (.bne (.d8 0x10#8)) && decodesTo [0x37#8, 0x01#8, 0x00#8] (.beq (.d16 0x0100#16)) &&
    decodesTo [0x28#8, 0x10#8] (.bvc (.d8 0x10#8)) && decodesTo [0x39#8, 0x01#8, 0x00#8] (.bvs (.d16 0x0100#16)) &&
    decodesTo [0x2A#8, 0x10#8] (.bpl (.d8 0x10#8)) && decodesTo [0x3B#8, 0x01#8, 0x00#8] (.bmi (.d16 0x0100#16)) &&
    decodesTo [0x2C#8, 0x10#8] (.bge (.d8 0x10#8)) && decodesTo [0x3D#8, 0x01#8, 0x00#8] (.blt (.d16 0x0100#16)) &&
    decodesTo [0x2E#8, 0x10#8] (.bgt (.d8 0x10#8)) && decodesTo [0x3F#8, 0xFF#8, 0x00#8] (.ble (.d16 0xFF00#16)) = true := by
  decide

theorem test_decode_control :
    decodesTo [0x0E#8, 0x10#8] (.bsr (.d8 0x10#8)) && decodesTo [0x1E#8, 0xFF#8, 0xFC#8] (.bsr (.d16 0xFFFC#16)) &&
    decodesTo [0x10#8, 0x12#8, 0x34#8] (.jmpAbs 0x1234#16) && decodesTo [0x11#8, 0xD2#8] (.jmpInd (.ind .r2)) &&
    decodesTo [0x11#8, 0xE1#8, 0x04#8] (.jmpInd (.disp8 .r1 0x04#8)) &&
    decodesTo [0x11#8, 0xF2#8, 0x80#8, 0x00#8] (.jmpInd (.disp16 .r2 0x8000#16)) &&
    decodesTo [0x18#8, 0x20#8, 0x00#8] (.jsrAbs 0x2000#16) && decodesTo [0x11#8, 0xDA#8] (.jsrInd (.ind .r2)) &&
    decodesTo [0x11#8, 0xEA#8, 0xFE#8] (.jsrInd (.disp8 .r2 0xFE#8)) &&
    decodesTo [0x13#8, 0x02#8, 0x80#8, 0x00#8] (.pjmpAbs 0x02#8 0x8000#16) && decodesTo [0x11#8, 0xC2#8] (.pjmpInd .r2) &&
    decodesTo [0x03#8, 0x01#8, 0x40#8, 0x00#8] (.pjsrAbs 0x01#8 0x4000#16) && decodesTo [0x11#8, 0xCA#8] (.pjsrInd .r2) &&
    decodesTo [0x19#8] .rts && decodesTo [0x11#8, 0x19#8] .prts && decodesTo [0x14#8, 0x04#8] (.rtd (.i8 0x04#8)) &&
    decodesTo [0x1C#8, 0x01#8, 0x00#8] (.rtd (.i16 0x0100#16)) && decodesTo [0x11#8, 0x14#8, 0x02#8] (.prtd (.i8 0x02#8)) &&
    decodesTo [0x11#8, 0x1C#8, 0x01#8, 0x00#8] (.prtd (.i16 0x0100#16)) &&
    decodesTo [0x01#8, 0xB9#8, 0xFD#8] (.scbF .r1 0xFD#8) && decodesTo [0x06#8, 0xB9#8, 0xFD#8] (.scbNe .r1 0xFD#8) &&
    decodesTo [0x07#8, 0xB9#8, 0xFD#8] (.scbEq .r1 0xFD#8) && decodesTo [0x17#8, 0xFC#8] (.link (.i8 0xFC#8)) &&
    decodesTo [0x1F#8, 0xFF#8, 0x00#8] (.link (.i16 0xFF00#16)) && decodesTo [0x0F#8] .unlk = true := by decide

theorem test_decode_system :
    decodesTo [0x04#8, 0x0F#8, 0x8D#8] (.ldc (.imm8 0x0F#8) .dp) && decodesTo [0xA8#8, 0x98#8] (.stc .sr (.reg .word .r0)) &&
    decodesTo [0xB7#8, 0x9F#8] (.stc .tp (.preDec .byte .r7)) &&
    decodesTo [0x0C#8, 0xF8#8, 0xFF#8, 0x58#8] (.andc (.imm16 0xF8FF#16) .sr) &&
    decodesTo [0x04#8, 0x01#8, 0x49#8] (.orc (.imm8 0x01#8) .ccr) &&
    decodesTo [0x04#8, 0x01#8, 0x69#8] (.xorc (.imm8 0x01#8) .ccr) && decodesTo [0x08#8, 0x13#8] (.trapa 3#4) &&
    decodesTo [0x0A#8] .rte && decodesTo [0x1A#8] .sleep && decodesTo [0x00#8] .nop = true := by decide

theorem test_decode_sub_moves :
    subDecodesTo [0xB1#8, 0x20#8] (.s8Lda (.indy 0x20#8)) && subDecodesTo [0xB6#8, 0x10#8] (.s8Ldx (.zpy 0x10#8)) &&
    subDecodesTo [0xBC#8, 0x34#8, 0x12#8] (.s8Ldy (.absx 0x1234#16)) && subDecodesTo [0x8D#8, 0x00#8, 0x02#8] (.s8Sta (.abs 0x0200#16)) &&
    subDecodesTo [0x96#8, 0x10#8] (.s8Stx (.zpy 0x10#8)) && subDecodesTo [0x94#8, 0x10#8] (.s8Sty (.zpx 0x10#8)) &&
    subDecodesTo [0x3C#8, 0x01#8, 0xF2#8] (.s8Ldm 0x01#8 0xF2#8) && subDecodesTo [0xAA#8] .s8Tax && subDecodesTo [0x8A#8] .s8Txa &&
    subDecodesTo [0xA8#8] .s8Tay && subDecodesTo [0x98#8] .s8Tya && subDecodesTo [0xBA#8] .s8Tsx && subDecodesTo [0x9A#8] .s8Txs &&
    subDecodesTo [0x48#8] .s8Pha && subDecodesTo [0x68#8] .s8Pla && subDecodesTo [0x08#8] .s8Php &&
    subDecodesTo [0x28#8] .s8Plp = true := by decide

theorem test_decode_sub_operations :
    subDecodesTo [0x69#8, 0x01#8] (.s8Adc (.imm 0x01#8)) && subDecodesTo [0xF9#8, 0x34#8, 0x12#8] (.s8Sbc (.absy 0x1234#16)) &&
    subDecodesTo [0xD5#8, 0x10#8] (.s8Cmp (.zpx 0x10#8)) && subDecodesTo [0xE0#8, 0x00#8] (.s8Cpx (.imm 0x00#8)) &&
    subDecodesTo [0xCC#8, 0x34#8, 0x12#8] (.s8Cpy (.abs 0x1234#16)) && subDecodesTo [0x3A#8] (.s8Inc .acc) &&
    subDecodesTo [0xC6#8, 0x10#8] (.s8Dec (.zp 0x10#8)) && subDecodesTo [0xE8#8] .s8Inx && subDecodesTo [0xC8#8] .s8Iny &&
    subDecodesTo [0xCA#8] .s8Dex && subDecodesTo [0x88#8] .s8Dey && subDecodesTo [0x29#8, 0x0F#8] (.s8And (.imm 0x0F#8)) &&
    subDecodesTo [0x09#8, 0x80#8] (.s8Ora (.imm 0x80#8)) && subDecodesTo [0x49#8, 0xFF#8] (.s8Eor (.imm 0xFF#8)) &&
    subDecodesTo [0x24#8, 0x10#8] (.s8Bit (.zp 0x10#8)) && subDecodesTo [0x0A#8] (.s8Asl .acc) && subDecodesTo [0x4A#8] (.s8Lsr .acc) &&
    subDecodesTo [0x2A#8] (.s8Rol .acc) && subDecodesTo [0x66#8, 0x10#8] (.s8Ror (.zp 0x10#8)) = true := by decide

theorem test_decode_sub_control :
    subDecodesTo [0x10#8, 0x7F#8] (.s8Bpl 0x7F#8) && subDecodesTo [0x30#8, 0x7F#8] (.s8Bmi 0x7F#8) &&
    subDecodesTo [0x50#8, 0x7F#8] (.s8Bvc 0x7F#8) && subDecodesTo [0x70#8, 0x7F#8] (.s8Bvs 0x7F#8) &&
    subDecodesTo [0x90#8, 0x7F#8] (.s8Bcc 0x7F#8) && subDecodesTo [0xB0#8, 0x7F#8] (.s8Bcs 0x7F#8) &&
    subDecodesTo [0xD0#8, 0xFE#8] (.s8Bne 0xFE#8) && subDecodesTo [0xF0#8, 0x10#8] (.s8Beq 0x10#8) &&
    subDecodesTo [0x80#8, 0x80#8] (.s8Bra 0x80#8) && subDecodesTo [0x4C#8, 0x34#8, 0x12#8] (.s8JmpAbs 0x1234#16) &&
    subDecodesTo [0x6C#8, 0x10#8, 0x00#8] (.s8JmpInd 0x0010#16) && subDecodesTo [0x20#8, 0x00#8, 0x11#8] (.s8Jsr 0x1100#16) &&
    subDecodesTo [0x60#8] .s8Rts && subDecodesTo [0x40#8] .s8Rti && subDecodesTo [0x00#8] .s8Brk &&
    subDecodesTo [0xE7#8, 0xE1#8, 0xFD#8] (.s8Bbs 7#3 (.zp 0xE1#8) 0xFD#8) && subDecodesTo [0x13#8, 0x02#8] (.s8Bbc 0#3 .acc 0x02#8) &&
    subDecodesTo [0x6B#8] (.s8Seb 3#3 .acc) && subDecodesTo [0xFF#8, 0x10#8] (.s8Clb 7#3 (.zp 0x10#8)) && subDecodesTo [0xEA#8] .s8Nop &&
    subDecodesTo [0x18#8] .s8Clc && subDecodesTo [0x38#8] .s8Sec && subDecodesTo [0x58#8] .s8Cli && subDecodesTo [0x78#8] .s8Sei &&
    subDecodesTo [0xB8#8] .s8Clv && subDecodesTo [0xD8#8] .s8Cld && subDecodesTo [0x12#8] .s8Clt = true := by decide

/-! ## MAIN16, one instruction each (95_test_vectors.md 2.1 to 2.7)

A row's bytes stand at page 0 offset 0x0100 of ROM1, the state is the one after reset with the row's changes; after
ExecuteInstruction the CPU and the memories are those of the start with the row's end changes and nothing else. -/

/-- One change of a state. -/
inductive Put where
  | r (n : Reg) (v : Word)
  | w (a : BusAddr) (v : Word)
  | b (a : BusAddr) (v : Byte)
  | nzvc (v : Word)
  | sr (v : Word)
  | pc (v : Word)
  | slot (k : ExcKind)
  | trap (n : Nat)
  | suppress | sleep
  | cp (v : Byte) | dp (v : Byte) | ep (v : Byte) | tp (v : Byte) | br (v : Byte)

/-- A state with one change. -/
def Put.into (s : State) : Put → State
  | .r n v => s.setReg n v
  | .w k v => pokeBus (k + 1#20) v.lo (pokeBus k v.hi s)
  | .b a v => pokeBus a v s
  | .nzvc v => { s with cpu.sr := s.cpu.sr &&& 0xFFF0#16 ||| v }
  | .sr v => { s with cpu.sr := v }
  | .pc v => s.setPc v
  | .slot k => { s with cpu.excSlot := some k }
  | .trap n => { s with cpu.trapPending := 1#16 <<< n }
  | .suppress => { s with cpu.suppress := true }
  | .sleep => { s with cpu.sleep := true }
  | .cp v => s.setCp v
  | .dp v => { s with cpu.dp := v }
  | .ep v => { s with cpu.ep := v }
  | .tp v => { s with cpu.tp := v }
  | .br v => { s with cpu.br := v }

/-- One row of a table of vectors. -/
structure MainRow where
  name   : String
  code   : List Byte
  before : List Put
  after  : List Put

/-- The start state of a row. -/
def MainRow.start (r : MainRow) : State :=
  r.before.foldl Put.into (pokeMain r.code 0x0100#16 (State.reset.setPc 0x0100#16))

/-- Whether the row's instruction ends as the row says. -/
def MainRow.passes (r : MainRow) : Bool :=
  let want := r.after.foldl Put.into r.start
  match executeInstruction r.start with
  | .next t => t.cpu == want.cpu && t.mem == want.mem && t.dev == want.dev
  | _ => false

/-- The names of the rows that fail. -/
def failing (rows : List MainRow) : List String := (rows.filter fun r => !r.passes).map MainRow.name

/-- Data transfer (95_test_vectors.md 2.1). -/
def transferRows1 : List MainRow :=
  [⟨"MOV:G.W @R1,R2",
     [0xD9#8, 0x82#8], [.r .r1 0x9000#16, .w 0x09000#20 0x0000#16, .nzvc 0b1011#16],
     [.nzvc 0b0101#16, .pc 0x0102#16]⟩,
   ⟨"MOV:G.B @R1,R2",
     [0xD1#8, 0x82#8], [.r .r1 0x9001#16, .r .r2 0x1234#16, .b 0x09001#20 0x80#8],
     [.r .r2 0x1280#16, .nzvc 0b1000#16, .pc 0x0102#16]⟩,
   ⟨"MOV:G.W R3,R4",
     [0xAB#8, 0x84#8], [.r .r3 0x8000#16, .r .r4 0x1111#16, .nzvc 0b0011#16],
     [.r .r4 0x8000#16, .nzvc 0b1001#16, .pc 0x0102#16]⟩,
   ⟨"MOV:G.W #0x0000,R5",
     [0x0C#8, 0x00#8, 0x00#8, 0x85#8], [.r .r5 0xFFFF#16],
     [.r .r5 0x0000#16, .nzvc 0b0100#16, .pc 0x0104#16]⟩,
   ⟨"MOV:G.B #0xFF,R5",
     [0x04#8, 0xFF#8, 0x85#8], [.r .r5 0x1200#16],
     [.r .r5 0x12FF#16, .nzvc 0b1000#16, .pc 0x0103#16]⟩,
   ⟨"MOV:G.B R0,@-R7 (byte push, step 2)",
     [0xB7#8, 0x90#8], [.r .r7 0xA000#16, .r .r0 0x12AB#16],
     [.r .r7 0x9FFE#16, .nzvc 0b1000#16, .w 0x09FFE#20 0xAB00#16, .pc 0x0102#16]⟩,
   ⟨"MOV:G.B @R7+,R0 (byte pop, step 2)",
     [0xC7#8, 0x80#8], [.r .r7 0x9FFE#16, .r .r0 0x5500#16, .w 0x09FFE#20 0xAB77#16],
     [.r .r0 0x55AB#16, .r .r7 0xA000#16, .nzvc 0b1000#16, .pc 0x0102#16]⟩,
   ⟨"MOV:G.W @R1+,R0 (step 2)",
     [0xC9#8, 0x80#8], [.r .r1 0x9000#16, .w 0x09000#20 0x7F00#16],
     [.r .r0 0x7F00#16, .r .r1 0x9002#16, .nzvc 0b0000#16, .pc 0x0102#16]⟩,
   ⟨"MOV:G.W R0,@(0x7F,R2)",
     [0xEA#8, 0x7F#8, 0x90#8], [.r .r2 0x9001#16, .r .r0 0xA5A5#16],
     [.nzvc 0b1000#16, .w 0x09080#20 0xA5A5#16, .pc 0x0103#16]⟩,
   ⟨"MOV:G.W @(0xFFFE,R2),R0 (d16 wraps)",
     [0xFA#8, 0xFF#8, 0xFE#8, 0x80#8], [.r .r2 0x9002#16, .w 0x09000#20 0x4321#16],
     [.r .r0 0x4321#16, .nzvc 0b0000#16, .pc 0x0104#16]⟩,
   ⟨"MOV:G.W @0x9000,R0 (DP=0)",
     [0x1D#8, 0x90#8, 0x00#8, 0x80#8], [.w 0x09000#20 0x8001#16],
     [.r .r0 0x8001#16, .nzvc 0b1000#16, .pc 0x0104#16]⟩,
   ⟨"MOV:G.B @0x12:8,R0 (BR=0x90)",
     [0x05#8, 0x12#8, 0x80#8], [.br 0x90#8, .b 0x09012#20 0x3C#8],
     [.r .r0 0x003C#16, .nzvc 0b0000#16, .pc 0x0103#16]⟩,
   ⟨"MOV:G.B #0x00,@R1",
     [0xD1#8, 0x06#8, 0x00#8], [.r .r1 0x9000#16, .b 0x09000#20 0x55#8, .nzvc 0b1001#16],
     [.nzvc 0b0101#16, .b 0x09000#20 0x00#8, .pc 0x0103#16]⟩,
   ⟨"MOV:G.W #0x7F (imm8 sign-extended),@R1",
     [0xD9#8, 0x06#8, 0x7F#8], [.r .r1 0x9000#16],
     [.nzvc 0b0000#16, .w 0x09000#20 0x007F#16, .pc 0x0103#16]⟩,
   ⟨"MOV:G.W #0x8000,@R1",
     [0xD9#8, 0x07#8, 0x80#8, 0x00#8], [.r .r1 0x9000#16],
     [.nzvc 0b1000#16, .w 0x09000#20 0x8000#16, .pc 0x0104#16]⟩,
   ⟨"MOV:E.B #0x00,R3",
     [0x53#8, 0x00#8], [.r .r3 0x12FF#16, .nzvc 0b1010#16],
     [.r .r3 0x1200#16, .nzvc 0b0100#16, .pc 0x0102#16]⟩]

theorem test_transferRows1 : failing transferRows1 = [] := by decide

/-- Data transfer (95_test_vectors.md 2.1). -/
def transferRows2 : List MainRow :=
  [⟨"MOV:I.W #0x0000,R3",
     [0x5B#8, 0x00#8, 0x00#8], [.r .r3 0x12FF#16, .nzvc 0b0001#16],
     [.r .r3 0x0000#16, .nzvc 0b0101#16, .pc 0x0103#16]⟩,
   ⟨"MOV:L.B @0x40:8,R1 (BR=0x90)",
     [0x61#8, 0x40#8], [.br 0x90#8, .r .r1 0xFF00#16, .b 0x09040#20 0x80#8],
     [.r .r1 0xFF80#16, .nzvc 0b1000#16, .pc 0x0102#16]⟩,
   ⟨"MOV:S.B R1,@0x41:8 (BR=0x90)",
     [0x71#8, 0x41#8], [.br 0x90#8, .r .r1 0x12F0#16],
     [.nzvc 0b1000#16, .b 0x09041#20 0xF0#8, .pc 0x0102#16]⟩,
   ⟨"MOV:F.W @(4,R6),R0",
     [0x88#8, 0x04#8], [.r .r6 0x9FF0#16, .w 0x09FF4#20 0x0BAD#16],
     [.r .r0 0x0BAD#16, .nzvc 0b0000#16, .pc 0x0102#16]⟩,
   ⟨"MOV:F.B @(-1,R6),R0",
     [0x80#8, 0xFF#8], [.r .r6 0x9FF0#16, .r .r0 0x1100#16, .b 0x09FEF#20 0x99#8],
     [.r .r0 0x1199#16, .nzvc 0b1000#16, .pc 0x0102#16]⟩,
   ⟨"MOV:F.W R0,@(-2,R6)",
     [0x98#8, 0xFE#8], [.r .r6 0x9FF0#16, .r .r0 0x7777#16],
     [.nzvc 0b0000#16, .w 0x09FEE#20 0x7777#16, .pc 0x0102#16]⟩,
   ⟨"XCH R0,R7",
     [0xAF#8, 0x90#8], [.r .r7 0xA000#16, .r .r0 0x0002#16],
     [.r .r0 0xA000#16, .r .r7 0x0002#16, .nzvc 0b0000#16, .pc 0x0102#16]⟩,
   ⟨"XCH R3,R3", [0xAB#8, 0x93#8], [.r .r3 0x1234#16, .nzvc 0b1111#16], [.nzvc 0b1111#16, .pc 0x0102#16]⟩,
   ⟨"SWAP.B R0", [0xA0#8, 0x10#8], [.r .r0 0x00FF#16], [.r .r0 0xFF00#16, .nzvc 0b1000#16, .pc 0x0102#16]⟩,
   ⟨"STM (R6),@-SP",
     [0x12#8, 0x40#8], [.r .r7 0xA000#16, .r .r6 0x6666#16],
     [.r .r7 0x9FFE#16, .nzvc 0b0000#16, .w 0x09FFE#20 0x6666#16, .pc 0x0102#16]⟩,
   ⟨"STM (),@-SP (empty list)", [0x12#8, 0x00#8], [.r .r7 0xA000#16], [.nzvc 0b0000#16, .pc 0x0102#16]⟩,
   ⟨"LDM @SP+,(R1,R3,R5)",
     [0x02#8, 0x2A#8], [.r .r7 0x9FFA#16, .w 0x09FFA#20 0x0001#16, .w 0x09FFC#20 0x0003#16, .w 0x09FFE#20 0x0005#16],
     [.r .r1 0x0001#16, .r .r3 0x0003#16, .r .r5 0x0005#16, .r .r7 0xA000#16, .nzvc 0b0000#16, .pc 0x0102#16]⟩]

theorem test_transferRows2 : failing transferRows2 = [] := by decide

/-- Arithmetic (2.2). -/
def arithRows1 : List MainRow :=
  [⟨"ADD:G.B R1,R2",
     [0xA1#8, 0x22#8], [.r .r1 0x0001#16, .r .r2 0x007F#16],
     [.r .r2 0x0080#16, .nzvc 0b1010#16, .pc 0x0102#16]⟩,
   ⟨"ADD:G.B R1,R2",
     [0xA1#8, 0x22#8], [.r .r1 0x0080#16, .r .r2 0x0080#16],
     [.r .r2 0x0000#16, .nzvc 0b0111#16, .pc 0x0102#16]⟩,
   ⟨"ADD:G.W R1,R2",
     [0xA9#8, 0x22#8], [.r .r1 0xFFFF#16, .r .r2 0x0001#16],
     [.r .r2 0x0000#16, .nzvc 0b0101#16, .pc 0x0102#16]⟩,
   ⟨"ADD:Q.W #1,R0", [0xA8#8, 0x08#8], [.r .r0 0xFFFF#16], [.r .r0 0x0000#16, .nzvc 0b0101#16, .pc 0x0102#16]⟩,
   ⟨"ADDX.B R1,R2 (C=1)",
     [0xA1#8, 0xA2#8], [.r .r1 0x00FF#16, .r .r2 0x0000#16, .nzvc 0b0001#16],
     [.nzvc 0b0101#16, .pc 0x0102#16]⟩,
   ⟨"ADDS.W R1,R2 (no flags)",
     [0xA9#8, 0x2A#8], [.r .r1 0xFFFF#16, .r .r2 0x0001#16, .nzvc 0b1010#16],
     [.r .r2 0x0000#16, .nzvc 0b1010#16, .pc 0x0102#16]⟩,
   ⟨"SUB.B R1,R2",
     [0xA1#8, 0x32#8], [.r .r1 0x0001#16, .r .r2 0x0080#16],
     [.r .r2 0x007F#16, .nzvc 0b0010#16, .pc 0x0102#16]⟩,
   ⟨"SUBS.W R1,R2 (no flags)",
     [0xA9#8, 0x3A#8], [.r .r1 0x0001#16, .r .r2 0x0000#16, .nzvc 0b0101#16],
     [.r .r2 0xFFFF#16, .nzvc 0b0101#16, .pc 0x0102#16]⟩,
   ⟨"SUBX.B R1,R2 (C=1)",
     [0xA1#8, 0xB2#8], [.r .r1 0x0000#16, .r .r2 0x0000#16, .nzvc 0b0001#16],
     [.r .r2 0x00FF#16, .nzvc 0b1001#16, .pc 0x0102#16]⟩,
   ⟨"CMP:G.W R1,R2", [0xA9#8, 0x72#8], [.r .r1 0x0002#16, .r .r2 0x0001#16], [.nzvc 0b1001#16, .pc 0x0102#16]⟩,
   ⟨"CMP:G.B #0x80,@R1",
     [0xD1#8, 0x04#8, 0x80#8], [.r .r1 0x9000#16, .b 0x09000#20 0x80#8],
     [.nzvc 0b0100#16, .b 0x09000#20 0x80#8, .pc 0x0103#16]⟩,
   ⟨"CMP:G.W #0x0001,@R1",
     [0xD9#8, 0x05#8, 0x00#8, 0x01#8], [.r .r1 0x9000#16, .w 0x09000#20 0x8000#16],
     [.nzvc 0b0010#16, .w 0x09000#20 0x8000#16, .pc 0x0104#16]⟩,
   ⟨"CMP:E.B #0x10,R0", [0x40#8, 0x10#8], [.r .r0 0xFF0F#16], [.nzvc 0b1001#16, .pc 0x0102#16]⟩,
   ⟨"CMP:I.W #0x8000,R0", [0x48#8, 0x80#8, 0x00#8], [.r .r0 0x7FFF#16], [.nzvc 0b1011#16, .pc 0x0103#16]⟩,
   ⟨"MULXU.B R1,R2",
     [0xA1#8, 0xAA#8], [.r .r1 0x00FF#16, .r .r2 0x12FF#16],
     [.r .r2 0xFE01#16, .nzvc 0b1000#16, .pc 0x0102#16]⟩,
   ⟨"MULXU.W R1,R2 (pair R2:R3)",
     [0xA9#8, 0xAA#8], [.r .r1 0xFFFF#16, .r .r2 0xAAAA#16, .r .r3 0xFFFF#16],
     [.r .r2 0xFFFE#16, .r .r3 0x0001#16, .nzvc 0b1000#16, .pc 0x0102#16]⟩]

theorem test_arithRows1 : failing arithRows1 = [] := by decide

/-- Arithmetic (2.2). -/
def arithRows2 : List MainRow :=
  [⟨"DIVXU.B R1,R2",
     [0xA1#8, 0xBA#8], [.r .r1 0x0010#16, .r .r2 0x0123#16],
     [.r .r2 0x0312#16, .nzvc 0b0000#16, .pc 0x0102#16]⟩,
   ⟨"DIVXU.W R1,R2 (pair R2:R3)",
     [0xA9#8, 0xBA#8], [.r .r1 0x0100#16, .r .r2 0x0001#16, .r .r3 0x2345#16],
     [.r .r2 0x0045#16, .r .r3 0x0123#16, .nzvc 0b0000#16, .pc 0x0102#16]⟩,
   ⟨"NEG.B R0", [0xA0#8, 0x14#8], [.r .r0 0x1280#16], [.nzvc 0b1011#16, .pc 0x0102#16]⟩,
   ⟨"CLR.W R0",
     [0xA8#8, 0x13#8], [.r .r0 0xFFFF#16, .nzvc 0b1011#16],
     [.r .r0 0x0000#16, .nzvc 0b0100#16, .pc 0x0102#16]⟩,
   ⟨"TST.W R0", [0xA8#8, 0x16#8], [.r .r0 0x8000#16, .nzvc 0b0011#16], [.nzvc 0b1000#16, .pc 0x0102#16]⟩,
   ⟨"TAS.B @R1",
     [0xD1#8, 0x17#8], [.r .r1 0x9000#16, .b 0x09000#20 0x00#8, .nzvc 0b0001#16],
     [.nzvc 0b0100#16, .b 0x09000#20 0x80#8, .pc 0x0102#16]⟩,
   ⟨"EXTS.B R0", [0xA0#8, 0x11#8], [.r .r0 0x1280#16], [.r .r0 0xFF80#16, .nzvc 0b1000#16, .pc 0x0102#16]⟩,
   ⟨"EXTU.B R0", [0xA0#8, 0x12#8], [.r .r0 0xFF80#16], [.r .r0 0x0080#16, .nzvc 0b0000#16, .pc 0x0102#16]⟩]

theorem test_arithRows2 : failing arithRows2 = [] := by decide

/-- Logic, shifts, bits (2.3). -/
def logicRows1 : List MainRow :=
  [⟨"AND.B R1,R2",
     [0xA1#8, 0x52#8], [.r .r1 0x00F0#16, .r .r2 0xAB8F#16, .nzvc 0b0011#16],
     [.r .r2 0xAB80#16, .nzvc 0b1001#16, .pc 0x0102#16]⟩,
   ⟨"OR.W #0x8000,R2",
     [0x0C#8, 0x80#8, 0x00#8, 0x42#8], [.r .r2 0x0001#16, .nzvc 0b0010#16],
     [.r .r2 0x8001#16, .nzvc 0b1000#16, .pc 0x0104#16]⟩,
   ⟨"XOR.W R1,R1",
     [0xA9#8, 0x61#8], [.r .r1 0x5A5A#16, .nzvc 0b1011#16],
     [.r .r1 0x0000#16, .nzvc 0b0101#16, .pc 0x0102#16]⟩,
   ⟨"NOT.B R0",
     [0xA0#8, 0x15#8], [.r .r0 0x12FF#16, .nzvc 0b0001#16],
     [.r .r0 0x1200#16, .nzvc 0b0101#16, .pc 0x0102#16]⟩,
   ⟨"NOT.W @R1",
     [0xD9#8, 0x15#8], [.r .r1 0x9000#16, .w 0x09000#20 0x7FFF#16],
     [.nzvc 0b1000#16, .w 0x09000#20 0x8000#16, .pc 0x0102#16]⟩,
   ⟨"SHAL.B R0", [0xA0#8, 0x18#8], [.r .r0 0x1240#16], [.r .r0 0x1280#16, .nzvc 0b1010#16, .pc 0x0102#16]⟩,
   ⟨"SHAL.B R0", [0xA0#8, 0x18#8], [.r .r0 0x1280#16], [.r .r0 0x1200#16, .nzvc 0b0111#16, .pc 0x0102#16]⟩,
   ⟨"SHAR.B R0", [0xA0#8, 0x19#8], [.r .r0 0x1281#16], [.r .r0 0x12C0#16, .nzvc 0b1001#16, .pc 0x0102#16]⟩,
   ⟨"SHLL.B R0",
     [0xA0#8, 0x1A#8], [.r .r0 0x1280#16, .nzvc 0b0010#16],
     [.r .r0 0x1200#16, .nzvc 0b0101#16, .pc 0x0102#16]⟩,
   ⟨"SHLR.B R0", [0xA0#8, 0x1B#8], [.r .r0 0x1281#16], [.r .r0 0x1240#16, .nzvc 0b0001#16, .pc 0x0102#16]⟩,
   ⟨"ROTL.B R0", [0xA0#8, 0x1C#8], [.r .r0 0x1281#16], [.r .r0 0x1203#16, .nzvc 0b0001#16, .pc 0x0102#16]⟩,
   ⟨"ROTR.B R0", [0xA0#8, 0x1D#8], [.r .r0 0x1201#16], [.r .r0 0x1280#16, .nzvc 0b1001#16, .pc 0x0102#16]⟩,
   ⟨"ROTXL.B R0 (C=1)",
     [0xA0#8, 0x1E#8], [.r .r0 0x1280#16, .nzvc 0b0001#16],
     [.r .r0 0x1201#16, .nzvc 0b0001#16, .pc 0x0102#16]⟩,
   ⟨"ROTXR.B R0 (C=1)",
     [0xA0#8, 0x1F#8], [.r .r0 0x1200#16, .nzvc 0b0001#16],
     [.r .r0 0x1280#16, .nzvc 0b1000#16, .pc 0x0102#16]⟩,
   ⟨"BSET.B #7,R0",
     [0xA0#8, 0xC7#8], [.r .r0 0x1200#16, .nzvc 0b1011#16],
     [.r .r0 0x1280#16, .nzvc 0b1111#16, .pc 0x0102#16]⟩,
   ⟨"BCLR.W #0,@R1",
     [0xD9#8, 0xD0#8], [.r .r1 0x9000#16, .w 0x09000#20 0xFFFF#16],
     [.nzvc 0b0000#16, .w 0x09000#20 0xFFFE#16, .pc 0x0102#16]⟩]

theorem test_logicRows1 : failing logicRows1 = [] := by decide

/-- Logic, shifts, bits (2.3). -/
def logicRows2 : List MainRow :=
  [⟨"BNOT.B #0,R0", [0xA0#8, 0xE0#8], [.r .r0 0x1201#16], [.r .r0 0x1200#16, .nzvc 0b0000#16, .pc 0x0102#16]⟩,
   ⟨"BTST.B #3,R0", [0xA0#8, 0xF3#8], [.r .r0 0x0008#16, .nzvc 0b1111#16], [.nzvc 0b1011#16, .pc 0x0102#16]⟩,
   ⟨"BSET.W R2,R0 (bit number R2 mod 16)",
     [0xA8#8, 0x4A#8], [.r .r0 0x0000#16, .r .r2 0x0013#16],
     [.r .r0 0x0008#16, .nzvc 0b0100#16, .pc 0x0102#16]⟩,
   ⟨"BSET.B R2,R0 (bit number R2 mod 8)",
     [0xA0#8, 0x4A#8], [.r .r0 0x0000#16, .r .r2 0x0013#16],
     [.r .r0 0x0008#16, .nzvc 0b0100#16, .pc 0x0102#16]⟩,
   ⟨"BCLR.B R2,@R1",
     [0xD1#8, 0x5A#8], [.r .r1 0x9000#16, .r .r2 0x0007#16, .b 0x09000#20 0xFF#8],
     [.nzvc 0b0000#16, .b 0x09000#20 0x7F#8, .pc 0x0102#16]⟩,
   ⟨"BNOT.W R2,R0",
     [0xA8#8, 0x6A#8], [.r .r0 0x8000#16, .r .r2 0xFFFF#16],
     [.r .r0 0x0000#16, .nzvc 0b0000#16, .pc 0x0102#16]⟩,
   ⟨"BTST.B R2,@R1",
     [0xD1#8, 0x7A#8], [.r .r1 0x9000#16, .r .r2 0x0100#16, .b 0x09000#20 0x01#8],
     [.nzvc 0b0000#16, .b 0x09000#20 0x01#8, .pc 0x0102#16]⟩]

theorem test_logicRows2 : failing logicRows2 = [] := by decide

/-- Control transfer (2.4b). -/
def controlRows1 : List MainRow :=
  [⟨"BRA 0x0100 (d8 = -2, branch to self)", [0x20#8, 0xFE#8], [], [.nzvc 0b0000#16, .pc 0x0100#16]⟩,
   ⟨"BNE 0x0203 (d16 = +0x0100), Z=0", [0x36#8, 0x01#8, 0x00#8], [], [.nzvc 0b0000#16, .pc 0x0203#16]⟩,
   ⟨"BEQ, flags unchanged by a branch", [0x27#8, 0x10#8], [.nzvc 0b1111#16], [.nzvc 0b1111#16, .pc 0x0112#16]⟩,
   ⟨"BSR 0x0112 (d8)",
     [0x0E#8, 0x10#8], [.r .r7 0xA000#16],
     [.r .r7 0x9FFE#16, .nzvc 0b0000#16, .w 0x09FFE#20 0x0102#16, .pc 0x0112#16]⟩,
   ⟨"BSR d16 = -4",
     [0x1E#8, 0xFF#8, 0xFC#8], [.r .r7 0xA000#16],
     [.r .r7 0x9FFE#16, .nzvc 0b0000#16, .w 0x09FFE#20 0x0103#16, .pc 0x00FF#16]⟩,
   ⟨"JMP @0x4000", [0x10#8, 0x40#8, 0x00#8], [], [.nzvc 0b0000#16, .pc 0x4000#16]⟩,
   ⟨"JMP @R2", [0x11#8, 0xD2#8], [.r .r2 0x1235#16], [.nzvc 0b0000#16, .pc 0x1235#16]⟩,
   ⟨"JMP @(4,R2)", [0x11#8, 0xE2#8, 0x04#8], [.r .r2 0x2000#16], [.nzvc 0b0000#16, .pc 0x2004#16]⟩,
   ⟨"JMP @(0x8000,R2)", [0x11#8, 0xF2#8, 0x80#8, 0x00#8], [.r .r2 0x9000#16], [.nzvc 0b0000#16, .pc 0x1000#16]⟩,
   ⟨"JSR @0x4000",
     [0x18#8, 0x40#8, 0x00#8], [.r .r7 0xA000#16],
     [.r .r7 0x9FFE#16, .nzvc 0b0000#16, .w 0x09FFE#20 0x0103#16, .pc 0x4000#16]⟩,
   ⟨"JSR @R2",
     [0x11#8, 0xDA#8], [.r .r7 0xA000#16, .r .r2 0x3000#16],
     [.r .r7 0x9FFE#16, .nzvc 0b0000#16, .w 0x09FFE#20 0x0102#16, .pc 0x3000#16]⟩,
   ⟨"JSR @(-2,R2)",
     [0x11#8, 0xEA#8, 0xFE#8], [.r .r7 0xA000#16, .r .r2 0x3000#16],
     [.r .r7 0x9FFE#16, .nzvc 0b0000#16, .w 0x09FFE#20 0x0103#16, .pc 0x2FFE#16]⟩,
   ⟨"RTS", [0x19#8], [.r .r7 0x9FFE#16, .w 0x09FFE#20 0x0203#16], [.r .r7 0xA000#16, .nzvc 0b0000#16, .pc 0x0203#16]⟩,
   ⟨"PJMP @0x02:0x8000", [0x13#8, 0x02#8, 0x80#8, 0x00#8], [], [.cp 0x02#8, .nzvc 0b0000#16, .pc 0x8000#16]⟩,
   ⟨"PJSR @0x01:0x4000",
     [0x03#8, 0x01#8, 0x40#8, 0x00#8], [.r .r7 0xA000#16, .cp 0x00#8],
     [.r .r7 0x9FFC#16, .cp 0x01#8, .nzvc 0b0000#16, .w 0x09FFE#20 0x0104#16, .w 0x09FFC#20 0x0000#16, .pc 0x4000#16]⟩,
   ⟨"PJMP @R2 (page from R2 low byte, offset from R3)",
     [0x11#8, 0xC2#8], [.r .r2 0x0003#16, .r .r3 0x1234#16],
     [.cp 0x03#8, .nzvc 0b0000#16, .pc 0x1234#16]⟩]

theorem test_controlRows1 : failing controlRows1 = [] := by decide

/-- Control transfer (2.4b). -/
def controlRows2 : List MainRow :=
  [⟨"PJSR @R2",
     [0x11#8, 0xCA#8], [.r .r7 0xA000#16, .r .r2 0x0003#16, .r .r3 0x1234#16],
     [.r .r7 0x9FFC#16, .cp 0x03#8, .nzvc 0b0000#16, .w 0x09FFE#20 0x0102#16, .w 0x09FFC#20 0x0000#16, .pc 0x1234#16]⟩,
   ⟨"PRTS",
     [0x11#8, 0x19#8], [.r .r7 0x9FFC#16, .w 0x09FFC#20 0x0005#16, .w 0x09FFE#20 0x0777#16],
     [.r .r7 0xA000#16, .cp 0x05#8, .nzvc 0b0000#16, .pc 0x0777#16]⟩,
   ⟨"RTD #0x04",
     [0x14#8, 0x04#8], [.r .r7 0x9FFA#16, .w 0x09FFA#20 0x0300#16],
     [.r .r7 0xA000#16, .nzvc 0b0000#16, .pc 0x0300#16]⟩,
   ⟨"RTD #0x0100",
     [0x1C#8, 0x01#8, 0x00#8], [.r .r7 0x9000#16, .w 0x09000#20 0x0300#16],
     [.r .r7 0x9102#16, .nzvc 0b0000#16, .pc 0x0300#16]⟩,
   ⟨"PRTD #0x02",
     [0x11#8, 0x14#8, 0x02#8], [.r .r7 0x9FF8#16, .w 0x09FF8#20 0x0001#16, .w 0x09FFA#20 0x0400#16],
     [.r .r7 0x9FFE#16, .cp 0x01#8, .nzvc 0b0000#16, .pc 0x0400#16]⟩,
   ⟨"LINK FP,#-4",
     [0x17#8, 0xFC#8], [.r .r7 0xA000#16, .r .r6 0x1234#16],
     [.r .r6 0x9FFE#16, .r .r7 0x9FFA#16, .nzvc 0b0000#16, .w 0x09FFE#20 0x1234#16, .pc 0x0102#16]⟩,
   ⟨"LINK FP,#0xFF00",
     [0x1F#8, 0xFF#8, 0x00#8], [.r .r7 0xA000#16, .r .r6 0x1234#16],
     [.r .r6 0x9FFE#16, .r .r7 0x9EFE#16, .nzvc 0b0000#16, .w 0x09FFE#20 0x1234#16, .pc 0x0103#16]⟩,
   ⟨"UNLK FP",
     [0x0F#8], [.r .r6 0x9FFE#16, .r .r7 0x9000#16, .w 0x09FFE#20 0x1234#16],
     [.r .r6 0x1234#16, .r .r7 0xA000#16, .nzvc 0b0000#16, .pc 0x0101#16]⟩,
   ⟨"SCB/F R1,0x0100 (count 2)",
     [0x01#8, 0xB9#8, 0xFD#8], [.r .r1 0x0002#16],
     [.r .r1 0x0001#16, .nzvc 0b0000#16, .pc 0x0100#16]⟩,
   ⟨"SCB/NE R1 (Z=1: count and loop)",
     [0x06#8, 0xB9#8, 0xFD#8], [.r .r1 0x0005#16, .nzvc 0b0100#16],
     [.r .r1 0x0004#16, .nzvc 0b0100#16, .pc 0x0100#16]⟩,
   ⟨"SCB/EQ R1 (Z=0, count 1: falls through)",
     [0x07#8, 0xB9#8, 0xFD#8], [.r .r1 0x0001#16],
     [.r .r1 0x0000#16, .nzvc 0b0000#16, .pc 0x0103#16]⟩]

theorem test_controlRows2 : failing controlRows2 = [] := by decide

/-- System control (2.5). -/
def systemRows1 : List MainRow :=
  [⟨"LDC.W #0x8F1F,SR (write mask 0x870F)",
     [0x0C#8, 0x8F#8, 0x1F#8, 0x88#8], [],
     [.sr 0x870F#16, .nzvc 0b1111#16, .pc 0x0104#16, .slot .trace, .suppress]⟩,
   ⟨"LDC.W R0,SR", [0xA8#8, 0x88#8], [.r .r0 0x0305#16], [.sr 0x0305#16, .nzvc 0b0101#16, .pc 0x0102#16, .suppress]⟩,
   ⟨"LDC.B #0xFF,CCR (only bits 3:0)",
     [0x04#8, 0xFF#8, 0x89#8], [],
     [.sr 0x070F#16, .nzvc 0b1111#16, .pc 0x0103#16, .suppress]⟩,
   ⟨"LDC.B R0,BR (low byte of R0)",
     [0xA0#8, 0x8B#8], [.r .r0 0x12FF#16],
     [.br 0xFF#8, .nzvc 0b0000#16, .pc 0x0102#16, .suppress]⟩,
   ⟨"LDC.B @R1,EP",
     [0xD1#8, 0x8C#8], [.r .r1 0x9000#16, .b 0x09000#20 0x0A#8],
     [.ep 0x0A#8, .nzvc 0b0000#16, .pc 0x0102#16, .suppress]⟩,
   ⟨"LDC.B #0x03,DP", [0x04#8, 0x03#8, 0x8D#8], [], [.dp 0x03#8, .nzvc 0b0000#16, .pc 0x0103#16, .suppress]⟩,
   ⟨"LDC.B #0x01,TP", [0x04#8, 0x01#8, 0x8F#8], [], [.tp 0x01#8, .nzvc 0b0000#16, .pc 0x0103#16, .suppress]⟩,
   ⟨"STC.W SR,R0",
     [0xA8#8, 0x98#8], [.sr 0x8705#16, .r .r0 0xFFFF#16],
     [.r .r0 0x8705#16, .nzvc 0b0101#16, .pc 0x0102#16, .slot .trace]⟩,
   ⟨"STC.B CCR,R0 (high byte of R0 kept)",
     [0xA0#8, 0x99#8], [.sr 0x070A#16, .r .r0 0xFF00#16],
     [.r .r0 0xFF0A#16, .nzvc 0b1010#16, .pc 0x0102#16]⟩,
   ⟨"STC.B EP,@R1",
     [0xD1#8, 0x9C#8], [.ep 0x07#8, .r .r1 0x9000#16],
     [.nzvc 0b0000#16, .b 0x09000#20 0x07#8, .pc 0x0102#16]⟩,
   ⟨"STC.B BR,R0",
     [0xA0#8, 0x9B#8], [.br 0xFF#8, .r .r0 0x0000#16],
     [.r .r0 0x00FF#16, .nzvc 0b0000#16, .pc 0x0102#16]⟩,
   ⟨"STC.W SR,@-R7",
     [0xBF#8, 0x98#8], [.r .r7 0xA000#16, .sr 0x0701#16],
     [.r .r7 0x9FFE#16, .nzvc 0b0001#16, .w 0x09FFE#20 0x0701#16, .pc 0x0102#16]⟩,
   ⟨"ANDC.W #0xF8FF,SR",
     [0x0C#8, 0xF8#8, 0xFF#8, 0x58#8], [.sr 0x070F#16],
     [.sr 0x000F#16, .nzvc 0b1111#16, .pc 0x0104#16, .suppress]⟩,
   ⟨"ANDC.B #0xFE,CCR",
     [0x04#8, 0xFE#8, 0x59#8], [.sr 0x070F#16],
     [.sr 0x070E#16, .nzvc 0b1110#16, .pc 0x0103#16, .suppress]⟩,
   ⟨"ORC.W #0x8000,SR (sets T)",
     [0x0C#8, 0x80#8, 0x00#8, 0x48#8], [],
     [.sr 0x8700#16, .nzvc 0b0000#16, .pc 0x0104#16, .slot .trace, .suppress]⟩,
   ⟨"XORC.B #0x0F,CCR",
     [0x04#8, 0x0F#8, 0x69#8], [.sr 0x0705#16],
     [.sr 0x070A#16, .nzvc 0b1010#16, .pc 0x0103#16, .suppress]⟩]

theorem test_systemRows1 : failing systemRows1 = [] := by decide

/-- System control (2.5). -/
def systemRows2 : List MainRow :=
  [⟨"XORC.W #0x0700,SR",
     [0x0C#8, 0x07#8, 0x00#8, 0x68#8], [],
     [.sr 0x0000#16, .nzvc 0b0000#16, .pc 0x0104#16, .suppress]⟩,
   ⟨"TRAPA #0", [0x08#8, 0x10#8], [], [.nzvc 0b0000#16, .pc 0x0102#16, .trap 0]⟩,
   ⟨"RTE",
     [0x0A#8], [.r .r7 0x9FFA#16, .w 0x09FFA#20 0xFFFF#16, .w 0x09FFC#20 0xAB03#16, .w 0x09FFE#20 0x4321#16],
     [.r .r7 0xA000#16, .cp 0x03#8, .sr 0x870F#16, .nzvc 0b1111#16, .pc 0x4321#16, .slot .trace, .suppress]⟩,
   ⟨"RTE with odd R7",
     [0x0A#8], [.r .r7 0x9FFB#16, .w 0x09FFA#20 0x0000#16, .w 0x09FFC#20 0x0000#16, .w 0x09FFE#20 0x0200#16],
     [.r .r7 0xA001#16, .cp 0x00#8, .sr 0x0000#16, .nzvc 0b0000#16, .pc 0x0200#16, .slot .addressError, .suppress]⟩,
   ⟨"SLEEP", [0x1A#8], [], [.nzvc 0b0000#16, .pc 0x0101#16, .sleep]⟩,
   ⟨"NOP", [0x00#8], [.nzvc 0b1111#16], [.nzvc 0b1111#16, .pc 0x0101#16]⟩]

theorem test_systemRows2 : failing systemRows2 = [] := by decide

/-- The order of evaluation and the reserved encodings (2.6, 2.7). -/
def orderRows : List MainRow :=
  [⟨"SWAP.B @R1 (reserved operand)",
     [0xD1#8, 0x10#8], [.r .r1 0x9000#16],
     [.nzvc 0b0000#16, .pc 0x0102#16, .slot .invalidInstruction]⟩,
   ⟨"MULXU.W R1,R3 (odd Rd)",
     [0xA9#8, 0xAB#8], [.r .r1 0x0002#16, .r .r3 0x4000#16],
     [.nzvc 0b0000#16, .pc 0x0102#16, .slot .invalidInstruction]⟩,
   ⟨"SCB with second byte not 0xB8..0xBF (reserved)",
     [0x01#8, 0xA9#8, 0xFD#8], [.r .r1 0x0002#16],
     [.nzvc 0b0000#16, .pc 0x0102#16, .slot .invalidInstruction]⟩,
   ⟨"LDC.B #0x00,SR (byte size with SR: reserved)",
     [0x04#8, 0x00#8, 0x88#8], [],
     [.sr 0x0700#16, .nzvc 0b0000#16, .pc 0x0103#16, .slot .invalidInstruction]⟩,
   ⟨"LDC.B #0x00,code 2 (reserved code)",
     [0x04#8, 0x00#8, 0x8A#8], [],
     [.nzvc 0b0000#16, .pc 0x0103#16, .slot .invalidInstruction]⟩,
   ⟨"STC.B SR (byte size: reserved)",
     [0xA0#8, 0x98#8], [.r .r0 0x1234#16],
     [.nzvc 0b0000#16, .pc 0x0102#16, .slot .invalidInstruction]⟩,
   ⟨"MOV:G.W R1,@-R1 (stores the decremented R1)",
     [0xB9#8, 0x91#8], [.r .r1 0x9002#16],
     [.r .r1 0x9000#16, .nzvc 0b1000#16, .w 0x09000#20 0x9000#16, .pc 0x0102#16]⟩,
   ⟨"MOV:G.W R1,@R1+ (stores the incremented R1)",
     [0xC9#8, 0x91#8], [.r .r1 0x9000#16],
     [.r .r1 0x9002#16, .nzvc 0b1000#16, .w 0x09000#20 0x9002#16, .pc 0x0102#16]⟩,
   ⟨"MOV:G.W @R1+,R1 (load wins over the increment)",
     [0xC9#8, 0x81#8], [.r .r1 0x9000#16, .w 0x09000#20 0x1234#16],
     [.r .r1 0x1234#16, .nzvc 0b0000#16, .pc 0x0102#16]⟩,
   ⟨"MOV:G.W @-R1,R1",
     [0xB9#8, 0x81#8], [.r .r1 0x9002#16, .w 0x09000#20 0x00AA#16],
     [.r .r1 0x00AA#16, .nzvc 0b0000#16, .pc 0x0102#16]⟩,
   ⟨"reserved first byte",
     [0x09#8, 0x00#8], [.r .r7 0xA000#16],
     [.nzvc 0b0000#16, .pc 0x0101#16, .slot .invalidInstruction]⟩,
   ⟨"reserved operation byte after EA R0.W",
     [0xA8#8, 0x0A#8], [],
     [.nzvc 0b0000#16, .pc 0x0102#16, .slot .invalidInstruction]⟩,
   ⟨"reserved op after @-R1 (pre-decrement kept)",
     [0xB9#8, 0x00#8], [.r .r1 0x9002#16],
     [.r .r1 0x9000#16, .nzvc 0b0000#16, .pc 0x0102#16, .slot .invalidInstruction]⟩,
   ⟨"0x11 group, PJMP @R7", [0x11#8, 0xC7#8], [], [.nzvc 0b0000#16, .pc 0x0102#16, .slot .invalidInstruction]⟩]

theorem test_orderRows : failing orderRows = [] := by decide

/-- Which of the sixteen NZVC values take the branch of condition `c`, NZVC = 0000 as bit 0. -/
def takenMask (c : Nat) : Nat :=
  ((List.range 16).filter fun f =>
    match executeInstruction
        (MainRow.start ⟨"", [byteOf (0x20 + c), 0x10#8], [.nzvc (BitVec.ofNat 16 f)], []⟩) with
    | .next t => t.cpu.pc == 0x0112#16
    | _ => false).foldl (fun m f => m + 2 ^ f) 0

/-- The condition table, column by column (95_test_vectors.md 2.4a). -/
theorem test_conditions :
    (List.range 16).map takenMask =
      [0xFFFF, 0x0000, 0x0505, 0xFAFA, 0x5555, 0xAAAA, 0x0F0F, 0xF0F0, 0x3333, 0xCCCC,
       0x00FF, 0xFF00, 0xCC33, 0x33CC, 0x0C03, 0xF3FC] := by
  decide

/-! ## SUB8, one instruction each (95_test_vectors.md 2.10; the last group by hand from R411 to R477) -/

/-- One change of a sub core's state. -/
inductive SubPut where
  | a (v : Byte) | x (v : Byte) | y (v : Byte) | s (v : Byte) | p (v : Byte)
  | spc (v : Word)
  | b (a : Word) (v : Byte)
  | acc (i : Nat) (v : Byte)
  | ramdir (v : Byte)
  | ien (v : BitVec 5)

/-- A state with one change. -/
def SubPut.into (s : State) : SubPut → State
  | .a v => s.setA v
  | .x v => s.setX v
  | .y v => s.setY v
  | .s v => s.setS v
  | .p v => s.setP v
  | .spc v => s.setSpc v
  | .b k v => pokeSub k v s
  | .acc i v => { s with link := Link.setAccByte i v s.link }
  | .ramdir v => { s with link.ramdir := v }
  | .ien v => { s with link.intEnable := v }

/-- One row of the table. -/
structure SubRow where
  name   : String
  code   : List Byte
  before : List SubPut
  after  : List SubPut

/-- The start state of a row: the bytes at 0x1000, S = 0x7F. -/
def SubRow.start (r : SubRow) : State :=
  r.before.foldl SubPut.into (pokeSubs r.code 0x1000#16 ((State.reset.setSpc 0x1000#16).setS 0x7F#8))

/-- The state after the instruction at SPC. -/
def subRan (s : State) : Option State :=
  let f := subFetch8 s
  let r := fetchSub (maxLength - 1) [f.1] f.2
  match r.1 with
  | .ok i _ =>
    match exec i r.2 with
    | .next t => some t
    | _ => none
  | _ => none

/-- Whether the row's instruction ends as the row says. -/
def SubRow.passes (r : SubRow) : Bool :=
  let want := r.after.foldl SubPut.into r.start
  match subRan r.start with
  | some t => t.sub == want.sub && t.link == want.link
  | none => false

/-- The names of the rows that fail. -/
def subFailing (rows : List SubRow) : List String := (rows.filter fun r => !r.passes).map SubRow.name

/-- SUB8 instructions (95_test_vectors.md 2.10). -/
def subRows1 : List SubRow :=
  [⟨"LDA #0x80", [0xA9#8, 0x80#8], [],
     [.a 0x80#8, .x 0x00#8, .y 0x00#8, .s 0x7F#8, .p 0x84#8, .spc 0x1002#16]⟩,
   ⟨"LDA 0x10,X (zero-page wrap: 0xF0+0x20 -> 0x10)", [0xB5#8, 0xF0#8], [.x 0x20#8, .b 0x0010#16 0x77#8],
     [.a 0x77#8, .x 0x20#8, .y 0x00#8, .s 0x7F#8, .p 0x04#8, .spc 0x1002#16]⟩,
   ⟨"LDA 0x01F0,Y", [0xB9#8, 0xF0#8, 0x01#8], [.y 0x20#8, .b 0x0210#16 0x42#8],
     [.a 0x42#8, .x 0x00#8, .y 0x20#8, .s 0x7F#8, .p 0x04#8, .spc 0x1003#16]⟩,
   ⟨"LDA (0x20),Y", [0xB1#8, 0x20#8], [.y 0x02#8, .b 0x0020#16 0x10#8, .b 0x0021#16 0x02#8, .b 0x0212#16 0x99#8],
     [.a 0x99#8, .x 0x00#8, .y 0x02#8, .s 0x7F#8, .p 0x84#8, .spc 0x1002#16]⟩,
   ⟨"LDX 0x10,Y", [0xB6#8, 0x10#8], [.y 0x01#8, .b 0x0011#16 0x80#8],
     [.a 0x00#8, .x 0x80#8, .y 0x01#8, .s 0x7F#8, .p 0x84#8, .spc 0x1002#16]⟩,
   ⟨"STA 0x0200", [0x8D#8, 0x00#8, 0x02#8], [.a 0x55#8],
     [.a 0x55#8, .x 0x00#8, .y 0x00#8, .s 0x7F#8, .p 0x04#8, .spc 0x1003#16, .b 0x0200#16 0x55#8, .acc 0 0x01#8]⟩,
   ⟨"LDA 0x0209 with ramdir=1 (flag 9 cleared)", [0xAD#8, 0x09#8, 0x02#8], [.ramdir 0x01#8, .acc 1 0xFF#8, .b 0x0209#16 0x11#8],
     [.a 0x11#8, .x 0x00#8, .y 0x00#8, .s 0x7F#8, .p 0x04#8, .spc 0x1003#16, .acc 1 0xFD#8]⟩,
   ⟨"STA 0x1000 (ROM: discarded)", [0x8D#8, 0x00#8, 0x10#8], [.a 0x66#8],
     [.a 0x66#8, .x 0x00#8, .y 0x00#8, .s 0x7F#8, .p 0x04#8, .spc 0x1003#16, .b 0x1000#16 0x8D#8]⟩,
   ⟨"LDM #0x01,0xF2", [0x3C#8, 0x01#8, 0xF2#8], [],
     [.a 0x00#8, .x 0x00#8, .y 0x00#8, .s 0x7F#8, .p 0x04#8, .spc 0x1003#16, .ien 0x01#5]⟩,
   ⟨"ADC #0x01", [0x69#8, 0x01#8], [.a 0x7F#8],
     [.a 0x80#8, .x 0x00#8, .y 0x00#8, .s 0x7F#8, .p 0xC4#8, .spc 0x1002#16]⟩,
   ⟨"ADC #0x01 (C=1)", [0x69#8, 0x01#8], [.a 0xFF#8, .p 0x05#8],
     [.a 0x01#8, .x 0x00#8, .y 0x00#8, .s 0x7F#8, .p 0x05#8, .spc 0x1002#16]⟩,
   ⟨"SBC #0x01 (C=1: no borrow)", [0xE9#8, 0x01#8], [.a 0x00#8, .p 0x05#8],
     [.a 0xFF#8, .x 0x00#8, .y 0x00#8, .s 0x7F#8, .p 0x84#8, .spc 0x1002#16]⟩,
   ⟨"CMP #0x10", [0xC9#8, 0x10#8], [.a 0x10#8],
     [.a 0x10#8, .x 0x00#8, .y 0x00#8, .s 0x7F#8, .p 0x07#8, .spc 0x1002#16]⟩,
   ⟨"CMP #0x11", [0xC9#8, 0x11#8], [.a 0x10#8],
     [.a 0x10#8, .x 0x00#8, .y 0x00#8, .s 0x7F#8, .p 0x84#8, .spc 0x1002#16]⟩,
   ⟨"INC A", [0x3A#8], [.a 0xFF#8, .p 0x05#8],
     [.a 0x00#8, .x 0x00#8, .y 0x00#8, .s 0x7F#8, .p 0x07#8, .spc 0x1001#16]⟩,
   ⟨"DEC 0x10", [0xC6#8, 0x10#8], [.b 0x0010#16 0x00#8],
     [.a 0x00#8, .x 0x00#8, .y 0x00#8, .s 0x7F#8, .p 0x84#8, .spc 0x1002#16, .b 0x0010#16 0xFF#8]⟩]

theorem test_subRows1 : subFailing subRows1 = [] := by decide

/-- SUB8 instructions (95_test_vectors.md 2.10). -/
def subRows2 : List SubRow :=
  [⟨"DEX", [0xCA#8], [.x 0x01#8],
     [.a 0x00#8, .x 0x00#8, .y 0x00#8, .s 0x7F#8, .p 0x06#8, .spc 0x1001#16]⟩,
   ⟨"INY", [0xC8#8], [.y 0x7F#8],
     [.a 0x00#8, .x 0x00#8, .y 0x80#8, .s 0x7F#8, .p 0x84#8, .spc 0x1001#16]⟩,
   ⟨"AND #0x0F", [0x29#8, 0x0F#8], [.a 0xF0#8],
     [.a 0x00#8, .x 0x00#8, .y 0x00#8, .s 0x7F#8, .p 0x06#8, .spc 0x1002#16]⟩,
   ⟨"ORA #0x80", [0x09#8, 0x80#8], [.a 0x01#8],
     [.a 0x81#8, .x 0x00#8, .y 0x00#8, .s 0x7F#8, .p 0x84#8, .spc 0x1002#16]⟩,
   ⟨"EOR #0xFF", [0x49#8, 0xFF#8], [.a 0xFF#8],
     [.a 0x00#8, .x 0x00#8, .y 0x00#8, .s 0x7F#8, .p 0x06#8, .spc 0x1002#16]⟩,
   ⟨"BIT 0x10", [0x24#8, 0x10#8], [.a 0x01#8, .b 0x0010#16 0xC0#8],
     [.a 0x01#8, .x 0x00#8, .y 0x00#8, .s 0x7F#8, .p 0xC6#8, .spc 0x1002#16]⟩,
   ⟨"ASL A", [0x0A#8], [.a 0x81#8],
     [.a 0x02#8, .x 0x00#8, .y 0x00#8, .s 0x7F#8, .p 0x05#8, .spc 0x1001#16]⟩,
   ⟨"LSR A", [0x4A#8], [.a 0x01#8],
     [.a 0x00#8, .x 0x00#8, .y 0x00#8, .s 0x7F#8, .p 0x07#8, .spc 0x1001#16]⟩,
   ⟨"ROL A (C=1)", [0x2A#8], [.a 0x80#8, .p 0x05#8],
     [.a 0x01#8, .x 0x00#8, .y 0x00#8, .s 0x7F#8, .p 0x05#8, .spc 0x1001#16]⟩,
   ⟨"ROR 0x10 (C=1)", [0x66#8, 0x10#8], [.p 0x05#8, .b 0x0010#16 0x01#8],
     [.a 0x00#8, .x 0x00#8, .y 0x00#8, .s 0x7F#8, .p 0x85#8, .spc 0x1002#16, .b 0x0010#16 0x80#8]⟩,
   ⟨"BEQ (Z=0: not taken)", [0xF0#8, 0x10#8], [],
     [.a 0x00#8, .x 0x00#8, .y 0x00#8, .s 0x7F#8, .p 0x04#8, .spc 0x1002#16]⟩,
   ⟨"BRA -128", [0x80#8, 0x80#8], [],
     [.a 0x00#8, .x 0x00#8, .y 0x00#8, .s 0x7F#8, .p 0x04#8, .spc 0x0F82#16]⟩,
   ⟨"BMI +127 (N=1)", [0x30#8, 0x7F#8], [.p 0x84#8],
     [.a 0x00#8, .x 0x00#8, .y 0x00#8, .s 0x7F#8, .p 0x84#8, .spc 0x1081#16]⟩,
   ⟨"JMP 0x1234", [0x4C#8, 0x34#8, 0x12#8], [],
     [.a 0x00#8, .x 0x00#8, .y 0x00#8, .s 0x7F#8, .p 0x04#8, .spc 0x1234#16]⟩,
   ⟨"JMP (0x0010)", [0x6C#8, 0x10#8, 0x00#8], [.b 0x0010#16 0x78#8, .b 0x0011#16 0x56#8],
     [.a 0x00#8, .x 0x00#8, .y 0x00#8, .s 0x7F#8, .p 0x04#8, .spc 0x5678#16]⟩,
   ⟨"JSR 0x1100", [0x20#8, 0x00#8, 0x11#8], [],
     [.a 0x00#8, .x 0x00#8, .y 0x00#8, .s 0x7D#8, .p 0x04#8, .spc 0x1100#16, .b 0x007F#16 0x10#8, .b 0x007E#16 0x02#8]⟩]

theorem test_subRows2 : subFailing subRows2 = [] := by decide

/-- SUB8 instructions (95_test_vectors.md 2.10). -/
def subRows3 : List SubRow :=
  [⟨"RTS", [0x60#8], [.s 0x7D#8, .b 0x007E#16 0x02#8, .b 0x007F#16 0x10#8],
     [.a 0x00#8, .x 0x00#8, .y 0x00#8, .s 0x7F#8, .p 0x04#8, .spc 0x1003#16]⟩,
   ⟨"PHP", [0x08#8], [.p 0x85#8],
     [.a 0x00#8, .x 0x00#8, .y 0x00#8, .s 0x7E#8, .p 0x85#8, .spc 0x1001#16, .b 0x007F#16 0x95#8]⟩,
   ⟨"PLP (B and nothing else dropped)", [0x28#8], [.s 0x7E#8, .b 0x007F#16 0xFF#8],
     [.a 0x00#8, .x 0x00#8, .y 0x00#8, .s 0x7F#8, .p 0xEF#8, .spc 0x1001#16]⟩,
   ⟨"TXS (no flags)", [0x9A#8], [.x 0x00#8],
     [.a 0x00#8, .x 0x00#8, .y 0x00#8, .s 0x00#8, .p 0x04#8, .spc 0x1001#16]⟩,
   ⟨"TSX", [0xBA#8], [.s 0x80#8],
     [.a 0x00#8, .x 0x80#8, .y 0x00#8, .s 0x80#8, .p 0x84#8, .spc 0x1001#16]⟩,
   ⟨"BRK", [0x00#8], [.p 0x01#8, .b 0x1FEC#16 0x00#8, .b 0x1FED#16 0x12#8],
     [.a 0x00#8, .x 0x00#8, .y 0x00#8, .s 0x7C#8, .p 0x05#8, .spc 0x1200#16, .b 0x007F#16 0x10#8, .b 0x007E#16 0x02#8, .b 0x007D#16 0x11#8]⟩,
   ⟨"RTI", [0x40#8], [.s 0x7C#8, .p 0x04#8, .b 0x007D#16 0x11#8, .b 0x007E#16 0x34#8, .b 0x007F#16 0x12#8],
     [.a 0x00#8, .x 0x00#8, .y 0x00#8, .s 0x7F#8, .p 0x01#8, .spc 0x1234#16]⟩,
   ⟨"BBS 7,0xE1,-3 (UART0 STAT bit 7 = 0: falls through)", [0xE7#8, 0xE1#8, 0xFD#8], [],
     [.a 0x00#8, .x 0x00#8, .y 0x00#8, .s 0x7F#8, .p 0x04#8, .spc 0x1003#16]⟩,
   ⟨"BBS 1,0xE1,-3 (tx_empty = 1: loops)", [0x27#8, 0xE1#8, 0xFD#8], [],
     [.a 0x00#8, .x 0x00#8, .y 0x00#8, .s 0x7F#8, .p 0x04#8, .spc 0x1000#16]⟩,
   ⟨"BBC 0,A,+2", [0x13#8, 0x02#8], [.a 0xFE#8],
     [.a 0xFE#8, .x 0x00#8, .y 0x00#8, .s 0x7F#8, .p 0x04#8, .spc 0x1004#16]⟩,
   ⟨"BBS 0,A,+2", [0x03#8, 0x02#8], [.a 0xFE#8],
     [.a 0xFE#8, .x 0x00#8, .y 0x00#8, .s 0x7F#8, .p 0x04#8, .spc 0x1002#16]⟩,
   ⟨"SEB 3,A", [0x6B#8], [.a 0x00#8, .p 0x04#8],
     [.a 0x08#8, .x 0x00#8, .y 0x00#8, .s 0x7F#8, .p 0x04#8, .spc 0x1001#16]⟩,
   ⟨"CLB 7,0x10", [0xFF#8, 0x10#8], [.b 0x0010#16 0xFF#8],
     [.a 0x00#8, .x 0x00#8, .y 0x00#8, .s 0x7F#8, .p 0x04#8, .spc 0x1002#16, .b 0x0010#16 0x7F#8]⟩,
   ⟨"SEB 0,0xC0 (sub core sets access flag 0 directly)", [0x0F#8, 0xC0#8], [],
     [.a 0x00#8, .x 0x00#8, .y 0x00#8, .s 0x7F#8, .p 0x04#8, .spc 0x1002#16, .acc 0 0x01#8]⟩,
   ⟨"CLT", [0x12#8], [.p 0x24#8],
     [.a 0x00#8, .x 0x00#8, .y 0x00#8, .s 0x7F#8, .p 0x04#8, .spc 0x1001#16]⟩]

theorem test_subRows3 : subFailing subRows3 = [] := by decide

/-- The instructions the table leaves out, by hand. -/
def subRows4 : List SubRow :=
  [⟨"LDY #0x00", [0xA0#8, 0x00#8], [.y 0x12#8], [.y 0x00#8, .p 0x06#8, .spc 0x1002#16]⟩,
   ⟨"STX 0x10,Y", [0x96#8, 0x10#8], [.x 0x55#8, .y 0x02#8], [.b 0x0012#16 0x55#8, .spc 0x1002#16]⟩,
   ⟨"STY 0x10,X (zero-page wrap)", [0x94#8, 0xF0#8], [.y 0x66#8, .x 0x20#8], [.b 0x0010#16 0x66#8, .spc 0x1002#16]⟩,
   ⟨"TAX", [0xAA#8], [.a 0x80#8], [.x 0x80#8, .p 0x84#8, .spc 0x1001#16]⟩,
   ⟨"TXA", [0x8A#8], [.a 0x80#8], [.a 0x00#8, .p 0x06#8, .spc 0x1001#16]⟩,
   ⟨"TAY", [0xA8#8], [.a 0x01#8], [.y 0x01#8, .spc 0x1001#16]⟩,
   ⟨"TYA", [0x98#8], [.y 0xFF#8], [.a 0xFF#8, .p 0x84#8, .spc 0x1001#16]⟩,
   ⟨"PHA", [0x48#8], [.a 0x80#8], [.b 0x007F#16 0x80#8, .s 0x7E#8, .spc 0x1001#16]⟩,
   ⟨"PLA", [0x68#8], [.s 0x7E#8, .b 0x007F#16 0x80#8], [.a 0x80#8, .s 0x7F#8, .p 0x84#8, .spc 0x1001#16]⟩,
   ⟨"CPX #0x00", [0xE0#8, 0x00#8], [.x 0x80#8], [.p 0x85#8, .spc 0x1002#16]⟩,
   ⟨"CPY #0x11", [0xC0#8, 0x11#8], [.y 0x10#8], [.p 0x84#8, .spc 0x1002#16]⟩,
   ⟨"INX", [0xE8#8], [.x 0xFF#8], [.x 0x00#8, .p 0x06#8, .spc 0x1001#16]⟩,
   ⟨"DEY", [0x88#8], [], [.y 0xFF#8, .p 0x84#8, .spc 0x1001#16]⟩,
   ⟨"NOP", [0xEA#8], [.p 0xEF#8], [.spc 0x1001#16]⟩]

theorem test_subRows4 : subFailing subRows4 = [] := by decide

/-- Branches and flags, by hand. -/
def subRows5 : List SubRow :=
  [⟨"BPL taken", [0x10#8, 0x10#8], [], [.spc 0x1012#16]⟩,
   ⟨"BVC not taken", [0x50#8, 0x10#8], [.p 0x44#8], [.spc 0x1002#16]⟩,
   ⟨"BVS taken", [0x70#8, 0x10#8], [.p 0x44#8], [.spc 0x1012#16]⟩,
   ⟨"BCC not taken", [0x90#8, 0x10#8], [.p 0x05#8], [.spc 0x1002#16]⟩,
   ⟨"BCS taken", [0xB0#8, 0x10#8], [.p 0x05#8], [.spc 0x1012#16]⟩,
   ⟨"BNE not taken", [0xD0#8, 0x10#8], [.p 0x06#8], [.spc 0x1002#16]⟩,
   ⟨"BEQ taken", [0xF0#8, 0x10#8], [.p 0x06#8], [.spc 0x1012#16]⟩,
   ⟨"CLC", [0x18#8], [.p 0xEF#8], [.p 0xEE#8, .spc 0x1001#16]⟩,
   ⟨"SEC", [0x38#8], [], [.p 0x05#8, .spc 0x1001#16]⟩,
   ⟨"CLI", [0x58#8], [.p 0xEF#8], [.p 0xEB#8, .spc 0x1001#16]⟩,
   ⟨"SEI", [0x78#8], [.p 0x00#8], [.p 0x04#8, .spc 0x1001#16]⟩,
   ⟨"CLV", [0xB8#8], [.p 0xEF#8], [.p 0xAF#8, .spc 0x1001#16]⟩,
   ⟨"CLD", [0xD8#8], [.p 0xEF#8], [.p 0xE7#8, .spc 0x1001#16]⟩]

theorem test_subRows5 : subFailing subRows5 = [] := by decide

/-- R405: the second byte of a pointer at 0xFF is at 0x00; the first is a stored byte of the device block (R600). -/
theorem test_pointer_wraps :
    let s : State := { State.reset with sub.y := 0x01#8, sub.ram := Memory.write [] 0 0x02#8,
                                        link.stored := Memory.write [] 0x1F 0x34#8 }
    (subPlace (.indy 0xFF#8) s).1 = .mem 0x0235#16 := by decide

/-! ## Exceptions, one quantum each (95_test_vectors.md 2.8) -/

/-- NOPs at 0x0100 (an empty ROM1), R[7] = 0xA000, and the vectors the tests use. -/
def quiet : State :=
  let vector (v : Nat) (t : Word) (s : State) : State :=
    pokeBus (BitVec.ofNat 20 (4 * v + 3)) t.lo (pokeBus (BitVec.ofNat 20 (4 * v + 2)) t.hi s)
  vector 46 0x02A0#16 (vector 33 0x0270#16 (vector 17 0x0250#16 (vector 11 0x0230#16 (vector 9 0x0220#16 (vector 8 0x0210#16
    ((State.reset.setReg .r7 0xA000#16).setPc 0x0100#16))))))

/-- What a row of 2.8 shows. -/
structure Shown where
  pc       : Word
  sr       : Word
  r7       : Word
  suppress : Bool
  sleep    : Bool
  slot     : Option ExcKind
  deriving DecidableEq

/-- One quantum of the main core. -/
def quantum (s : State) : Option Shown :=
  match mainStep s with
  | .next t => some ⟨t.cpu.pc, t.cpu.sr, t.reg .r7, t.cpu.suppress, t.cpu.sleep, t.cpu.excSlot⟩
  | _ => none

/-- E1, quantum 1: the lowest trap goes before the slot, NMI and IRQ1. -/
theorem test_trap_goes_first :
    quantum (setLine .nmi true
        { quiet with cpu.sr := 0x0000#16, cpu.trapPending := 0x000A#16, cpu.excSlot := some .addressError }) =
      some ⟨0x0251#16, 0x0000#16, 0x9FFA#16, false, false, some .addressError⟩ := by decide

/-- E1, quantum 3: the slot goes before NMI. -/
theorem test_slot_goes_before_nmi :
    quantum (setLine .nmi true { quiet with cpu.sr := 0x0000#16, cpu.excSlot := some .addressError }) =
      some ⟨0x0211#16, 0x0000#16, 0x9FFA#16, false, false, none⟩ := by decide

/-- E6, quantum 1: NMI is taken at mask 7, and stays pending (R514). -/
theorem test_nmi_taken :
    quantum (setLine .nmi true quiet) = some ⟨0x0231#16, 0x0700#16, 0x9FFA#16, false, false, none⟩ ∧
    (interruptCheck (setLine .nmi true quiet)).pending .nmi = true := by decide

/-- IRQ1 with this P1CR, IPRA and mask. -/
def irq1At (p1cr ipra : Byte) (sr : Word) : State :=
  setLine .irq1 true { quiet with cpu.sr := sr, dev.p1cr := p1cr, dev.ipra := ipra }

/-- E8: the gate and the mask. -/
theorem test_gate_and_mask :
    quantum (irq1At 0x00#8 0x03#8 0x0000#16) = some ⟨0x0101#16, 0x0000#16, 0xA000#16, false, false, none⟩ ∧
    quantum (irq1At 0x40#8 0x03#8 0x0300#16) = some ⟨0x0101#16, 0x0300#16, 0xA000#16, false, false, none⟩ ∧
    quantum (irq1At 0x40#8 0x03#8 0x0200#16) = some ⟨0x0271#16, 0x0300#16, 0x9FFA#16, false, false, none⟩ ∧
    quantum (irq1At 0x40#8 0x07#8 0x0700#16) = some ⟨0x0101#16, 0x0700#16, 0xA000#16, false, false, none⟩ := by decide

/-- E2, quantum 1: level 6 of the 8-bit timer goes before level 5 of IRQ1. -/
def contended : State :=
  { irq1At 0x40#8 0x05#8 0x0000#16 with dev.iprc := 0x06#8, dev.tmr.tcr := 0x40#8, dev.tmr.tcsr := 0x40#8 }

theorem test_higher_level_goes_first :
    quantum (timerLines contended) = some ⟨0x02A1#16, 0x0600#16, 0x9FFA#16, false, false, none⟩ := by decide

/-- E3, quanta 1 and 3: LDC to SR with T sets `suppress` and requests Trace; the entry clears T and pushes SR as it was. -/
theorem test_trace :
    quantum (pokeMain [0x0C#8, 0x87#8, 0x00#8, 0x88#8] 0x0100#16 quiet) =
      some ⟨0x0104#16, 0x8700#16, 0xA000#16, true, false, some .trace⟩ ∧
    quantum { quiet with cpu.sr := 0x8700#16, cpu.excSlot := some .trace, cpu.pc := 0x0105#16 } =
      some ⟨0x0221#16, 0x0700#16, 0x9FFA#16, false, false, none⟩ ∧
    (memRead16 0x09FFA#20 (interruptCheck
      { quiet with cpu.sr := 0x8700#16, cpu.excSlot := some .trace, cpu.pc := 0x0105#16 })).1 = 0x8700#16 := by decide

/-- E5, quantum 2: an entry through an odd stack pointer requests AddressError. -/
theorem test_odd_stack_entry :
    quantum { quiet.setReg .r7 0xA001#16 with cpu.trapPending := 0x0002#16 } =
      some ⟨0x0251#16, 0x0700#16, 0x9FFB#16, false, false, some .addressError⟩ := by decide

/-- A sleeping core executes nothing; an entry wakes it (R520; P1, quantum 15). -/
theorem test_sleep_and_wake :
    quantum { quiet with cpu.sleep := true } = some ⟨0x0100#16, 0x0700#16, 0xA000#16, false, true, none⟩ ∧
    quantum (setLine .nmi true { quiet with cpu.sleep := true }) =
      some ⟨0x0231#16, 0x0700#16, 0x9FFA#16, false, false, none⟩ := by decide

/-! ## Timers, the link, the PCM engine (95_test_vectors.md 2.9, 2.11, 2.12) -/

/-- FRT0 with a status and shadow, the state after an access of TCSR. -/
def frt0With (tcsr shadow : Byte) : State := { quiet with dev.frt0.tcsr := tcsr, dev.frt0.rdShadow := shadow }

/-- Status and shadow of FRT0. -/
def frt0Of (s : State) : Byte × Byte := (s.dev.frt0.tcsr, s.dev.frt0.rdShadow)

/-- T4: the read-since-set protocol. -/
theorem test_status_protocol :
    frt0Of (write8 0x0FF91#20 0x00#8 (frt0With 0x70#8 0x00#8)) = (0x70#8, 0x00#8) ∧
    frt0Of (read8 0x0FF91#20 (frt0With 0x70#8 0x00#8)).2 = (0x70#8, 0x70#8) ∧
    frt0Of (write8 0x0FF91#20 0x5F#8 (frt0With 0x70#8 0x70#8)) = (0x5F#8, 0x50#8) ∧
    frt0Of (write8 0x0FF91#20 0x0F#8 (frt0With 0x7F#8 0x50#8)) = (0x2F#8, 0x00#8) := by decide

/-- T3: after the first three ticks FRC is 0 and OCFA and OVF are set. -/
theorem test_compare_and_overflow :
    (timerUpdate { quiet with cpu.cycles := 12, dev.frt0.frc := 0xFFFD#16, dev.frt0.ocrb := 0x0001#16,
                              dev.frt0.tcr := 0x03#8 }).dev.frt0 =
      { Frt.reset with frc := 0x0000#16, ocrb := 0x0001#16, tcr := 0x03#8, tcsr := 0x30#8 } := by decide

/-- T5: compare and clear of the 8-bit timer, and its overflow. -/
theorem test_timer_compare_clear :
    (Tmr.tick { Tmr.reset with tcr := 0x0D#8, tcora := 0x03#8, tcnt := 0x02#8 }).tcnt = 0x00#8 ∧
    (Tmr.tick { Tmr.reset with tcr := 0x05#8, tcnt := 0xFE#8 }).tcsr = 0xC0#8 ∧
    (Tmr.tick { Tmr.reset with tcr := 0x05#8, tcnt := 0xFF#8, tcsr := 0xC0#8 }).tcsr = 0xE0#8 := by decide

/-- Steps 1, 5, 10 and 13 of 2.11: each core's accesses and the flags. -/
theorem test_shared_flags :
    (subWrite 0x0200#16 0x55#8 quiet).link.accByte 0 = 0x01#8 ∧
    (read8 0x0EC00#20 (subWrite 0x0200#16 0x55#8 quiet)).1 = 0x55#8 ∧
    (read8 0x0EC00#20 (subWrite 0x0200#16 0x55#8 quiet)).2.link.accByte 0 = 0x00#8 ∧
    (write8 0x0EC03#20 0xAA#8 { quiet with link.ramdir := 0x01#8 }).link.accByte 0 = 0x08#8 ∧
    (subRead 0x0203#16 (write8 0x0EC03#20 0xAA#8 { quiet with link.ramdir := 0x01#8 })).2.link.accByte 0 = 0x00#8 := by
  decide

/-- The mailbox of 2.11. -/
theorem test_mailbox :
    (write8 0x0ECE0#20 0x5A#8 quiet).link.mboxM2s = 0x5A#8 ∧
    (write8 0x0ECE0#20 0x5A#8 quiet).link.intPending = 0x40#8 ∧
    (read8 0x0ECE0#20 (write8 0x0ECE0#20 0x5A#8 quiet)).1 = 0x00#8 := by decide

/-- P4, step 8: the sub core enters through the vector of bit 6 and pushes 0x10, 0x09, 0x02. -/
theorem test_sub_interrupt :
    let s : State := { quiet with sub.s := 0x7F#8, sub.p := 0x02#8, sub.spc := 0x1009#16, link.intEnable := 0x08#5,
                                  link.intPending := 0x40#8, sub.rom := [(0xFF0, 0x20#8), (0xFF1, 0x10#8)] }
    (subInterruptCheck s).sub =
      { s.sub with s := 0x7C#8, p := 0x06#8, spc := 0x1020#16, ram := [(0x7D, 0x02#8), (0x7E, 0x09#8), (0x7F, 0x10#8)] } := by
  decide

/-- Rows of the AddClip20 and Multi tables. -/
theorem test_pcm_primitives :
    addClip20 0x7FFFF#20 0x00001#20 false = 0x7FFFF#20 ∧ addClip20 0x7FFFE#20 0x00000#20 true = 0x7FFFF#20 ∧
    addClip20 0x80000#20 0xFFFFF#20 false = 0x80000#20 ∧ addClip20 0x80000#20 0xFFFFF#20 true = 0x80000#20 ∧
    addClip20 0xFFFFF#20 0xFFFFF#20 true = 0xFFFFF#20 ∧ addClip20 0x12345#20 0xF0000#20 false = 0x02345#20 ∧
    multi 0x00100#20 0xFE#8 = -512 ∧ multi 0x7FFFF#20 0x21#8 = 16777215 ∧ multi 0x80000#20 0x20#8 = -16777216 ∧
    multi 0x80000#20 0x80#8 = 16777215 := by decide

/-- Ticks delivered after 1 and after 3 quanta at voice counts 0 and 1. -/
theorem test_pcm_schedule :
    pcmTicksDue { Pcm.reset 32 [] with activeVoiceCount := 0#5 } 12 = 1 ∧
    pcmTicksDue { Pcm.reset 32 [] with activeVoiceCount := 0#5 } 36 = 2 ∧
    pcmTicksDue { Pcm.reset 32 [] with activeVoiceCount := 1#5 } 36 = 1 ∧
    pcmTicksDue { Pcm.reset 32 [] with activeVoiceCount := 31#5 } 1200 = 2 := by decide

/-- The voice interrupt protocol: channel 5 is latched, channel 9 is lost, the status reads 0x85 once. -/
def ringing : Pcm :=
  let v : PcmVoice := { PcmVoice.zero with irqEn := true }
  { Pcm.reset 32 [] with voices := ((List.replicate 32 PcmVoice.zero).set 5 v).set 9 v }

theorem test_voice_interrupt :
    ((ringing.voiceIrq 5 true).voiceIrqPending, (ringing.voiceIrq 5 true).voiceIrqChannel) = (true, 5#5) ∧
    ((ringing.voiceIrq 5 true).voiceIrq 9 true).voiceIrqChannel = 5#5 ∧
    (pcmRead 0x3E#6 { quiet with pcm := ringing.voiceIrq 5 true }).1 = 0x85#8 ∧
    (pcmRead 0x3E#6 (pcmRead 0x3E#6 { quiet with pcm := ringing.voiceIrq 5 true }).2).1 = 0x05#8 := by decide

/-! ## Reset and memory (95_test_vectors.md 2.13) -/

/-- A state with vectors and dirty registers, reset. -/
def dirty : State :=
  { quiet with mem.rom1 := [(1, 0x02#8), (2, 0x81#8)], sub.rom := [(0xFFF, 0x10#8)], sub.s := 0x5A#8, cpu.sr := 0x0600#16,
               cpu.br := 0xFF#8, dev.tmr.tcr := 0x49#8, dev.iprc := 0x06#8, mem.sram := [(0x1FFA, 0x06#8)] }

theorem test_reset_values :
    (hostReset dirty).cpu = { Cpu.reset with cp := 0x02#8, pc := 0x8100#16 } ∧ (hostReset dirty).dev = Dev.reset ∧
    (hostReset dirty).sub.spc = 0x1000#16 ∧ (hostReset dirty).sub.s = 0x5A#8 ∧ (hostReset dirty).sub.p = 0x04#8 ∧
    (hostReset dirty).mem = dirty.mem := by decide

theorem test_reset_memory_wf :
    State.reset.mem.rom1.wf 0x8000 && State.reset.mem.rom2.wf 0x80000 && State.reset.mem.ram.wf 0x400 &&
    State.reset.mem.sram.wf 0x8000 = true := by decide

/-- Writing the value an unlisted byte reads as removes the entry. -/
theorem test_memory_canonical :
    Memory.write [(1, 0x11#8), (3, 0x33#8)] 2 0x22#8 = [(1, 0x11#8), (2, 0x22#8), (3, 0x33#8)] ∧
    Memory.write [(1, 0x11#8), (3, 0x33#8)] 3 0x00#8 = [(1, 0x11#8)] ∧
    Memory.read [(1, 0x11#8), (3, 0x33#8)] 2 = 0x00#8 := by decide

/-- Table numbers of both instruction sets (notes/assumptions/8.md). -/
theorem test_table_words :
    decodeTableWord 8 0xA9 = some (.s8Lda (.imm 0x00#8)) ∧ decodeTableWord 8 0x1A = some (.s8Dec .acc) ∧
    decodeTableWord 8 0x02 = some (.ldm 0x00#8) := by decide

/-! ## Witnesses: the hypotheses of the statements can be met

One theorem for each statement of Certificates/Slice0/Obligations.lean that has hypotheses, with one concrete case for each of
its clauses, at the bounds of the clause's range. -/

/-- MOV:G.W @R1,R2 at CP:PC. -/
def loadState : State := pokeMain [0xD9#8, 0x82#8] 0x0100#16 (quiet.setReg .r1 0x9000#16)

/-- LDA #0x80 at SPC, the sub core's turn, S = 0x7F. -/
def subState : State :=
  { pokeSubs [0xA9#8, 0x80#8] 0x1000#16 ((quiet.setSpc 0x1000#16).setS 0x7F#8) with model.phase := .sub }

theorem witness_MainDecodeEncode :
    (Instr.cmpGImm16 0xFFFF#16 (.disp16 .word .r7 0xFFFF#16)).wf = true ∧
    (Instr.cmpGImm16 0xFFFF#16 (.disp16 .word .r7 0xFFFF#16)).isSub8 = false ∧
    (Instr.cmpGImm16 0xFFFF#16 (.disp16 .word .r7 0xFFFF#16)).isSpecifier = false := by decide

theorem witness_SubDecodeEncode :
    (Instr.s8Bbs 7#3 (.zp 0xFF#8) 0x80#8).wf = true ∧ (Instr.s8Bbs 7#3 (.zp 0xFF#8) 0x80#8).isSub8 = true := by decide

theorem witness_DecodersAdmitWhatExists_first :
    (0xBF#8 ∉ [0x14#8, 0x19#8, 0x1C#8] ∧ (0xBF#8).toNat < 0xC0) ∧ (0xC7#8 ∉ [0x14#8, 0x19#8, 0x1C#8]) ∧
    (0xCF#8 ∉ [0x14#8, 0x19#8, 0x1C#8]) ∧ ((0xB7#8).toNat < 0xB8 ∧ 0xBF < (0xC0#8).toNat) ∧
    ((0x0F#8).toNat < 0x10 ∧ 0x1F < (0x20#8).toNat) := by decide

/-- The operation bytes at the bounds of the ranges: MOV:G of an immediate (R118), XCH and TAS's widths, LDC and the logic on
CR by size, an odd register of MULXU.W and DIVXU.W, MOV:G to a register and to an immediate. -/
theorem witness_DecodersAdmitWhatExists_operation :
    (admitsOp (.ind .byte .r0) 0x03#8 = false ∧ admitsOp (.ind .byte .r0) 0x04#8 = true) ∧
    (admitsOp (.ind .word .r0) 0x07#8 = true ∧ admitsOp (.reg .word .r0) 0x07#8 = false) ∧
    (admitsOp (.ind .byte .r0) 0x10#8 = false ∧ admitsOp (.reg .byte .r0) 0x12#8 = true) ∧
    (admitsOp (.ind .byte .r0) 0x17#8 = true ∧ admitsOp (.ind .word .r0) 0x17#8 = false) ∧
    (admitsOp (.imm8 0x00#8) 0x48#8 = false ∧ admitsOp (.imm16 0x0000#16) 0x48#8 = true) ∧
    (admitsOp (.ind .byte .r0) 0x88#8 = false ∧ admitsOp (.ind .byte .r0) 0x8F#8 = true) ∧
    (admitsOp (.reg .word .r0) 0xA8#8 = true ∧ admitsOp (.reg .word .r0) 0xBF#8 = false) ∧
    (admitsOp (.imm8 0x00#8) 0xFF#8 = false ∧ admitsOp (.reg .byte .r7) 0xFF#8 = true) := by decide

theorem witness_DecodersAdmitWhatExists_sub :
    isSubOpcode 0x42#8 = false ∧ isSubOpcode 0xFF#8 = true ∧ isSubOpcode 0x02#8 = false ∧ isSubOpcode 0x00#8 = true := by
  decide

theorem witness_DecodersAdmitWhatExists_answers :
    decode [0x00#8, 0x55#8] = .ok .nop [0x55#8] ∧
    decode [0xA8#8, 0x00#8, 0x55#8] = .reservedOp (.eaReg .word .r0) [0x55#8] ∧
    decodeSub [0xEA#8, 0x55#8] = .ok .s8Nop [0x55#8] := by decide

theorem witness_StepRunsDecoded_next :
    ∃ i rest s1 t, loadState.model.phase = .main ∧
      (boundaryCheck (takeHost loadState.model.hostIn loadState)).cpu.sleep = false ∧
      fetchMain maxLength [] (boundaryCheck (takeHost loadState.model.hostIn loadState)) = (.ok i rest, s1) ∧
      exec i s1 = .next t := ⟨_, _, _, _, rfl, rfl, rfl, rfl⟩

/-- The same state asleep: the rest of the quantum runs without an instruction. -/
theorem witness_StepRunsDecoded_asleep :
    { loadState with cpu.sleep := true }.model.phase = .main ∧
    (boundaryCheck (takeHost { loadState with cpu.sleep := true }.model.hostIn
      { loadState with cpu.sleep := true })).cpu.sleep = true := by decide

theorem witness_StepRunsDecoded_execute :
    ∃ t, executeInstruction (boundaryCheck (takeHost loadState.model.hostIn loadState)) = .next t := ⟨_, rfl⟩

/-- LDM with R[7] in its list. -/
def refusedState : State := pokeMain [0x02#8, 0x80#8] 0x0100#16 quiet

theorem witness_StepRunsDecoded_refused :
    ∃ i rest s1 r, refusedState.model.phase = .main ∧
      (boundaryCheck (takeHost refusedState.model.hostIn refusedState)).cpu.sleep = false ∧
      fetchMain maxLength [] (boundaryCheck (takeHost refusedState.model.hostIn refusedState)) = (.ok i rest, s1) ∧
      exec i s1 = .refused r := ⟨_, _, _, _, rfl, rfl, rfl, rfl⟩

theorem witness_StepRunsDecoded_execute_refused :
    ∃ r, executeInstruction (boundaryCheck (takeHost refusedState.model.hostIn refusedState)) = .refused r := ⟨_, rfl⟩

theorem witness_StepRunsDecoded_sub :
    ∃ i rest s1 t, subState.model.phase = .sub ∧
      fetchSub (maxLength - 1) [(subFetch8 (subInterruptCheck (subDevUpdate subState))).1]
        (subFetch8 (subInterruptCheck (subDevUpdate subState))).2 = (.ok i rest, s1) ∧
      exec i s1 = .next t := ⟨_, _, _, _, rfl, rfl, rfl⟩

/-- R151, R542: NOP with SR.T = 1 after it requests Trace, with SR.T = 0 it does not, and a request already made stays. -/
theorem test_trace_request :
    (traced { quiet with cpu.sr := 0x8700#16 }).cpu.excSlot = some .trace ∧ (traced quiet).cpu.excSlot = none ∧
    (traced { quiet with cpu.sr := 0x8700#16, cpu.excSlot := some .addressError }).cpu.excSlot = some .addressError := by
  decide

theorem witness_EncodedInstructionRuns_next :
    (∃ t, exec (.movGLoad (.ind .word .r1) .r2)
      (loadState.setPc (loadState.cpu.pc + BitVec.ofNat 16 (encode (.movGLoad (.ind .word .r1) .r2)).length)) = .next t) ∧
    ∃ t, exec (.s8Lda (.imm 0x80#8))
      (subState.setSpc (subState.sub.spc + BitVec.ofNat 16 (encode (.s8Lda (.imm 0x80#8))).length)) = .next t :=
  ⟨⟨_, rfl⟩, _, rfl⟩

theorem witness_EncodedInstructionRuns_refused :
    ∃ r, exec (.ldm 0x80#8) quiet = .refused r := ⟨_, rfl⟩

theorem witness_EncodedInstructionRuns :
    (Instr.movGLoad (.ind .word .r1) .r2).wf = true ∧ (Instr.movGLoad (.ind .word .r1) .r2).isSpecifier = false ∧
    (Instr.movGLoad (.ind .word .r1) .r2).isSub8 = false ∧
    ∀ k, (h : k < (encode (.movGLoad (.ind .word .r1) .r2)).length) →
      loadState.plainByte (busAddr loadState.cpu.cp (loadState.cpu.pc + BitVec.ofNat 16 k)) = true ∧
      peek8 loadState (busAddr loadState.cpu.cp (loadState.cpu.pc + BitVec.ofNat 16 k)) =
        (encode (.movGLoad (.ind .word .r1) .r2))[k] := by decide

theorem witness_EncodedInstructionRuns_sub :
    (Instr.s8Lda (.imm 0x80#8)).wf = true ∧ (Instr.s8Lda (.imm 0x80#8)).isSpecifier = false ∧
    (Instr.s8Lda (.imm 0x80#8)).isSub8 = true ∧
    (subTarget (subState.sub.spc + 0#16) = .rom 0 ∧ subPeek subState (subState.sub.spc + 0#16) = 0xA9#8) ∧
    (subTarget (subState.sub.spc + 1#16) = .rom 1 ∧ subPeek subState (subState.sub.spc + 1#16) = 0x80#8) ∧
    encode (.s8Lda (.imm 0x80#8)) = [0xA9#8, 0x80#8] := by decide

theorem witness_ReservedEncodingStep :
    ∃ rest s1, fetchMain maxLength [] (pokeMain [0x09#8] 0x0100#16 quiet) = (.reserved rest, s1) := ⟨_, _, rfl⟩

theorem witness_ReservedEncodingStep_operation :
    ∃ rest s1, fetchMain maxLength [] (pokeMain [0xB9#8, 0x00#8] 0x0100#16 quiet) =
      (.reservedOp (EA.preDec .word .r1).toInstr rest, s1) := ⟨_, _, rfl⟩

/-- A reserved SUB8 opcode at SPC. -/
def subReserved : State := pokeSubs [0x42#8] 0x1000#16 subState

theorem witness_ReservedEncodingStep_sub :
    ∃ rest s1, subReserved.model.phase = .sub ∧
      fetchSub (maxLength - 1) [(subFetch8 (subInterruptCheck (subDevUpdate subReserved))).1]
        (subFetch8 (subInterruptCheck (subDevUpdate subReserved))).2 = (.reserved rest, s1) := ⟨_, _, rfl, rfl⟩

theorem witness_OperandRead :
    (resolveEA (.ind .word .r1) loadState).1 = .mem 0x09000#20 ∧ loadState.plainAt .word 0x09000#20 = true ∧
    (resolveEA (.ind .word .r1) (loadState.setReg .r1 0xDFFF#16)).1 = .mem 0x0DFFF#20 ∧
    (loadState.setReg .r1 0xDFFF#16).plainAt .word 0x0DFFF#20 = true := by decide

/-- On-chip RAM enabled (R38). -/
def ramOn : State := { quiet with dev.ramcr := 0x80#8 }

theorem witness_BusAccess :
    (ramOn.arraysOk = true ∧ ramOn.ramAt .word 0x0FB80#20 = true ∧ ramOn.ramAt .word 0x0FF7F#20 = true ∧
      ramOn.ramAt .word 0x08000#20 = true) ∧
    quiet.target 0x0E400#20 = .unmapped ∧ quiet.target 0x07FFF#20 = .rom1 0x7FFF ∧ quiet.target 0x7FFFF#20 = .rom2 0x7FFFF ∧
    ramOn.target 0x0FB80#20 = .ram 0 ∧ quiet.target 0x0DFFF#20 = .sram 0x5FFF ∧
    (quiet.target 0x0FFF0#20 = .dev 0x70 ∧ devReg 0x70 ≠ .ext ∧ devReg 0x70 ≠ .tmrTcsr ∧
      ∀ k ∈ [FrtId.k0, .k1, .k2], devReg 0x70 ≠ .frt k .tcsr) ∧
    (ramOn.params.memMap = defaultMemMap ∧ ramOn.plainRam 0x0FF7F#20 = true ∧
      ramOn.target 0x0FF7F#20 = ramOn.target 0x0FF7F#20) := by decide

/-- The rows of R620 at their bounds, the ends of the PCM window, and an external address. -/
theorem witness_BusAccess_windows :
    [0x0EC00#20, 0x0ECBF#20, 0x0ECC0#20, 0x0ECD7#20, 0x0ECD8#20, 0x0ECDF#20, 0x0ECE0#20, 0x0ECE1#20, 0x0ECE2#20,
        0x0ECE3#20, 0x0ECE4#20, 0x0EFFF#20].map quiet.target =
      [.shared 0x00, .shared 0xBF, .shared 0xC0, .shared 0xD7, .shared 0xD8, .shared 0xDF, .shared 0xE0, .shared 0xE1,
        .shared 0xE2, .shared 0xE3, .shared 0xE4, .shared 0xFF] ∧
    quiet.target 0x0E000#20 = .pcm 0x00#6 ∧ quiet.target 0x0E3FF#20 = .pcm 0x3F#6 ∧ quiet.target 0x80000#20 = .ext := by
  decide

theorem witness_Stores : (EA.preDec .word .r7).cls = .mem ∧ (EA.preDec .word .r7).size = .word := by decide

/-- R77 with R38, R83: a word store whose first byte is RAMCR decodes its second byte with RAM shown. -/
theorem test_word_store_decodes_in_order :
    let s : State := { State.reset with
      params.memMap := [⟨none, 0x100, 0x101, 0x87, false, .dev⟩, ⟨none, 0x101, 0x102, 0x101, true, .ram⟩] }
    let t := memWrite16 0x100#20 0x8055#16 s
    s.target 0x101#20 = .unmapped ∧ t.dev.ramcr = 0x80#8 ∧ t.mem.ram.read 0 = 0x55#8 := by decide

theorem witness_MultiRegisterTransfers_list :
    (0x80#8).getLsbD 7 = true ∧ (0x7F#8).getLsbD 7 = false := by decide

/-- A stack whose R[7] is odd: the words lie at the even addresses below. -/
def oddStack : State := quiet.setReg .r7 0xA001#16

theorem witness_MultiRegisterTransfers_stack :
    ∃ t, exec (.stm 0x7F#8) oddStack = .next t ∧ oddStack.arraysOk = true ∧
      oddStack.stackRam (t.reg .r7) (listedBelow 0x7F#8 7) = true ∧
      (∃ rs : Regs, rs.r7 = t.reg .r7) ∧
      (oddStack.stackBytes (oddStack.reg .r7) (listedBelow 0x7F#8 7)).all oddStack.plainByte = true :=
  ⟨_, rfl, by decide, by decide, ⟨⟨0, 0, 0, 0, 0, 0, 0, _⟩, rfl⟩, by decide⟩

theorem witness_register_or_memory :
    (EA.reg .byte .r0).regOrMem = true ∧ (EA.postInc .word .r1).regOrMem = true ∧ (EA.reg .byte .r0).size = .byte := by
  decide

theorem witness_Compares :
    ((EA.ind .byte .r2).cls = .mem ∧ (EA.ind .byte .r2).size = .byte) ∧
    ((EA.abs16 .word 0x9000#16).cls = .mem ∧ (EA.abs16 .word 0x9000#16).size = .word) := by decide

theorem witness_Multiply :
    (EA.reg .byte .r1).size = .byte ∧ (EA.reg .word .r1).size = .word ∧ Reg.r6.toNat % 2 = 0 ∧
    Reg.r7.toNat % 2 = 1 := by decide

/-- DIVXU.B R1,R2 with a divisor of 1. -/
def divState (dividend : Word) : State := (quiet.setReg .r1 0x0001#16).setReg .r2 dividend

theorem witness_Divide :
    ((EA.reg .word .r1).size = .word ∧ Reg.r7.toNat % 2 = 1) ∧
    ((EA.reg .byte .r1).size = .word → Reg.r2.toNat % 2 = 0) ∧
    (((divState 0x00FF#16).fetched (.reg .byte .r1)).1.toNat ≠ 0 ∧
      dividendOf .byte .r2 (divState 0x00FF#16) < ((divState 0x00FF#16).fetched (.reg .byte .r1)).1.toNat * 256) ∧
    (((divState 0x0100#16).fetched (.reg .byte .r1)).1.toNat ≠ 0 ∧
      ((divState 0x0100#16).fetched (.reg .byte .r1)).1.toNat * 256 ≤ dividendOf .byte .r2 (divState 0x0100#16)) := by
  decide

theorem witness_CompareThenBranch : ∃ u, exec (.cmpG (.reg .word .r1) .r0) quiet = .next u := ⟨_, rfl⟩

theorem witness_Jumps_Calls : Reg.r6 ≠ .r7 ∧ Reg.r7.toNat = Reg.r6.toNat + 1 ∧ Reg.r1.toNat = Reg.r0.toNat + 1 := by
  decide

theorem witness_ReturnsInvertCalls :
    oddStack.arraysOk = true ∧ oddStack.stackRam (oddStack.reg .r7 - 4#16) 2 = true ∧
    (∃ (t : State) (rs : Regs), exec (.bsr (.d8 0x10#8)) oddStack = .next t ∧ rs.r7 = t.reg .r7) ∧
    (∃ (t : State) (rs : Regs), exec (.jsrAbs 0x2000#16) oddStack = .next t ∧ rs.r7 = t.reg .r7) ∧
    (∃ (t : State) (rs : Regs), exec (.jsrInd (.ind .r2)) oddStack = .next t ∧ rs.r7 = t.reg .r7) ∧
    (∃ (t : State) (rs : Regs), exec (.pjsrAbs 0x01#8 0x4000#16) oddStack = .next t ∧ rs.r7 = t.reg .r7) ∧
    (∃ (t : State) (rs : Regs), exec (.pjsrInd .r6) oddStack = .next t ∧ rs.r7 = t.reg .r7) :=
  ⟨by decide, by decide, ⟨_, ⟨0, 0, 0, 0, 0, 0, 0, _⟩, rfl, rfl⟩, ⟨_, ⟨0, 0, 0, 0, 0, 0, 0, _⟩, rfl, rfl⟩,
    ⟨_, ⟨0, 0, 0, 0, 0, 0, 0, _⟩, rfl, rfl⟩, ⟨_, ⟨0, 0, 0, 0, 0, 0, 0, _⟩, rfl, rfl⟩,
    ⟨_, ⟨0, 0, 0, 0, 0, 0, 0, _⟩, rfl, rfl⟩⟩

theorem witness_LoopPrimitive :
    quiet.nzvc.z = false ∧ { quiet with cpu.sr := 0x0704#16 }.nzvc.z = true := by decide

theorem witness_LinkAndUnlink : quiet.arraysOk = true ∧ quiet.ramAt .word quiet.pushAddr = true := by decide

theorem witness_ControlRegisters :
    ((EA.imm16 0xF8FF#16).size = CReg.sr.size ∧ (EA.imm16 0xF8FF#16).cls = .imm) ∧
    ((EA.imm8 0xFE#8).size = CReg.ccr.size ∧ (EA.imm8 0xFE#8).cls = .imm) ∧
    ((EA.preDec .byte .r7).size = CReg.tp.size ∧ (EA.preDec .byte .r7).regOrMem = true) ∧
    ((EA.reg .word .r0).size = CReg.sr.size ∧ (EA.reg .word .r0).regOrMem = true) := by decide

/-- Where `MEMMAP` is the default: the entry of vector 63 is in ROM1, whether RAM is shown or not. -/
theorem witness_ExceptionEntry_vector : quiet.params.memMap = defaultMemMap ∧ vectorInRom quiet.params 63 := by
  refine ⟨rfl, fun rame k hk => ?_⟩
  have h : ∀ (r : Bool) (j : Fin 4),
      busTarget quiet.params r (BitVec.ofNat 20 (4 * 63 + j.1)) = .rom1 (4 * 63 + j.1) := by decide
  exact h rame ⟨k, hk⟩

theorem witness_ExceptionEntry_return :
    63 < 64 ∧ oddStack.arraysOk = true ∧ oddStack.statusOk = true ∧ oddStack.stackRam (oddStack.reg .r7 - 6#16) 3 = true := by
  decide

theorem witness_InterruptPriority_host : HostEvent.reset ≠ .tick ∧ HostEvent.setNmi true ≠ .tick := by decide

/-- R507, R670: `set_nmi` raises the line, and the next quantum, which takes the interrupt, does not drop it. -/
theorem test_nmi_line :
    (hostEvent (.setNmi true) quiet).pending .nmi = true ∧
    (interruptCheck (hostEvent (.setNmi true) quiet)).pending .nmi = true ∧
    (hostEvent (.setNmi false) (hostEvent (.setNmi true) quiet)).pending .nmi = false := by decide

theorem witness_InterruptPriority_trap :
    { quiet with cpu.trapPending := 0x8000#16 }.cpu.trapPending.getLsbD 15 = true ∧
    ∀ k, k < 15 → { quiet with cpu.trapPending := 0x8000#16 }.cpu.trapPending.getLsbD k = false := by decide

theorem witness_InterruptPriority_slot_and_nmi :
    (quiet.cpu.trapPending = 0#16 ∧ { quiet with cpu.excSlot := some .trace }.cpu.excSlot = some .trace) ∧
    (quiet.cpu.excSlot = none ∧ (setLine .nmi true quiet).pending .nmi = true) := by decide

theorem witness_InterruptPriority_maskable :
    (timerLines contended).cpu.trapPending = 0#16 ∧ (timerLines contended).cpu.excSlot = none ∧
    (timerLines contended).pending .nmi = false ∧ Source.tmrCmia ∈ maskableSources ∧
    (timerLines contended).acceptable .tmrCmia = true ∧ (timerLines contended).acceptable .irq1 = true ∧
    ∀ x ∈ maskableSources, (timerLines contended).acceptable x = true →
      ((timerLines contended).dev.level x).toNat < ((timerLines contended).dev.level .tmrCmia).toNat ∨
        ((timerLines contended).dev.level x = (timerLines contended).dev.level .tmrCmia ∧
          Source.tmrCmia.vector ≤ x.vector) := by decide

theorem witness_InterruptPriority_none :
    quiet.pending .nmi = false ∧ ∀ x ∈ maskableSources, quiet.acceptable x = false := by decide

theorem witness_TimerStatusProtocol :
    (quiet.target 0x0FF91#20 = .dev 0x11 ∧ devReg 0x11 = .frt .k0 .tcsr ∧ (EA.abs16 .byte 0xFF91#16).size = .byte ∧
      quiet.operandAddr (.abs16 .byte 0xFF91#16) = some 0x0FF91#20 ∧ devReg 0x31 = .frt .k2 .tcsr) ∧
    (quiet.target 0x0FFD1#20 = .dev 0x51 ∧ devReg 0x51 = .tmrTcsr ∧
      quiet.operandAddr (.abs16 .byte 0xFFD1#16) = some 0x0FFD1#20) := by decide

/-- Every offset of the device block is at its place in the bus: the named registers at both ends of each run and the
external offsets at the bounds of each range. -/
theorem witness_TimerStatusProtocol_offsets :
    ∀ i ∈ [0x00, 0x0F, 0x10, 0x12, 0x17, 0x18, 0x1F, 0x20, 0x27, 0x30, 0x37, 0x38, 0x3F, 0x40, 0x4F, 0x50, 0x52, 0x53, 0x54,
        0x55, 0x6F, 0x70, 0x71, 0x72, 0x73, 0x74, 0x78, 0x79, 0x7A, 0x7B, 0x7C, 0x7D, 0x7F],
      quiet.target (0x0FF80#20 + BitVec.ofNat 20 i) = .dev i := by decide

theorem witness_Schedules : 0 < quiet.params.timerDiv := by decide

theorem witness_PcmPrimitivesAndInterrupt :
    31 < 32 ∧ ((ringing.voice 9).irqEn = true ∧ ringing.voiceIrqPending = false) ∧
    (0x3B#6).toNat < 0x3C ∧ quiet.pending .irq0 = quiet.pcm.voiceIrqPending ∧ quiet.voicesOk = true ∧
    (∀ n, n < 32 → quiet.pcm.keyonCommitted.getLsbD n = false) ∧
    ({ setLine .irq0 true quiet with pcm := ringing.voiceIrq 5 true }.pending .irq0 =
        (ringing.voiceIrq 5 true).voiceIrqPending ∧ (ringing.voiceIrq 5 true).voiceIrqPending = true) := by decide

theorem witness_SharedAccessFlags :
    191 < 192 ∧ quiet.link.ramdir.getLsbD 0 = false ∧ { quiet with link.ramdir := 0x01#8 }.link.ramdir.getLsbD 0 = true := by
  decide

/-- A byte in flight on channel 2, due at 5. -/
def inFlight : State := { quiet with link.uart2.rxDue := some 5, link.uart2.rxIncoming := 0x33#8 }

theorem witness_SubDevices :
    (quiet.params.variant = .mk2 ∧ quiet.link.uart0.rxDue = none) ∧
    { quiet with link.uart0.rxDue := some 5 }.link.uart0.rxDue ≠ none ∧
    { quiet with params.variant := .mk1 }.params.variant = .mk1 ∧
    ((inFlight.link.uart .c2).rxDue = some 5 ∧ inFlight.sub.cycles < 5 ∧ 5 ≤ { inFlight with sub.cycles := 5 }.sub.cycles) := by
  decide

/-- The kinds of registers and stored bytes of the device block, and the default map. -/
theorem witness_SubDevices_offsets :
    quiet.params.subDevMap = defaultSubDevMap ∧ quiet.arraysOk = true ∧
    ([0x00, 0x05, 0x0A, 0x03, 0x0C, 0x0D, 0x0E, 0x0F, 0x10, 0x11, 0x12, 0x13, 0x14, 0x15, 0x16, 0x1F].map
        (subDevReg quiet.params)) =
      [some (.uData .c0), some (.uStat .c1), some (.uMode .c2), some (.uBaud .c0), some .mbox, some .sema, some .coll,
        some .ramdir, some .tpre, some .tcnt, some .ien, some .ipend, some .pout, some .pin, none, none] := by decide

theorem witness_SubAddressing :
    (0x7E#8).toNat < 0x7F ∧ (subPlace (.absx 0xFFFF#16) subState).1 = .mem 0xFFFF#16 := by decide

/-- What the addresses at the bounds of R402's ranges name. -/
theorem witness_SubAddressing_map :
    [0x0000#16, 0x007F#16, 0x0080#16, 0x00BF#16, 0x00C0#16, 0x00D7#16, 0x00D8#16, 0x00E0#16, 0x00FF#16, 0x0100#16, 0x01FF#16,
        0x0200#16, 0x02BF#16, 0x02C0#16, 0x0FFF#16, 0x1000#16, 0xFFFF#16].map subTarget =
      [.ram 0, .ram 127, .unmapped, .unmapped, .acc 0, .acc 23, .unmapped, .dev 0, .dev 31, .unmapped, .unmapped, .shram 0,
        .shram 191, .unmapped, .unmapped, .rom 0, .rom 4095] := by decide

theorem witness_sub_flags_clear : subState.pT = false ∧ subState.pD = false := by decide

theorem witness_SubStoresAndStack :
    (subPlace (.abs 0x0200#16) subState).1 = .mem 0x0200#16 ∧
    (0x14#8).toNat = subState.sub.p.toNat % 16 + 16 + subState.sub.p.toNat / 32 * 32 := by decide

theorem witness_sub_modify : (SubMode.acc).kind.isModify = true ∧ (SubMode.absx 0x0200#16).kind.isModify = true := by decide

theorem witness_SubCallsAndInterrupts :
    (2 ≤ (subState.setS 0x02#8).sub.s.toNat ∧ subState.sub.s.toNat < 0x80 ∧ subState.arraysOk = true ∧
      subState.statusOk = true) ∧
    ((subState.setS 0x7D#8).sub.s.toNat < 0x7E ∧ (subState.setS 0x7C#8).sub.s.toNat < 0x7D ∧
      3 ≤ (subState.setS 0x03#8).sub.s.toNat) ∧
    subState.pI = true ∧
    ((subState.setP 0x00#8).pI = false ∧ ∀ j, j < 8 → (subState.setP 0x00#8).link.due j = false) ∧
    (let s : State := { subState.setP 0x00#8 with link.intEnable := 0x10#5, link.intPending := 0x80#8 }
     s.pI = false ∧ s.link.due 7 = true ∧ ∀ k, k < 7 → s.link.due k = false) := by decide

theorem witness_OpenResults :
    (((EA.imm16 0x0000#16).size = .word → Reg.r2.toNat % 2 = 0) ∧ (quiet.fetched (.imm16 0x0000#16)).1.toNat = 0) ∧
    (subState.setP 0x20#8).pT = true ∧ (subState.setP 0x08#8).pD = true := by decide

theorem witness_StepKeepsLegal : quiet.legal = true ∧ ∃ t, step quiet = .next t := ⟨by decide, _, rfl⟩

theorem witness_StepKeepsLegal_sub : subState.legal = true ∧ ∃ t, step subState = .next t := ⟨by decide, _, rfl⟩

theorem witness_StepKeepsLines :
    (setLine .irq0 true { quiet with pcm := ringing.voiceIrq 5 true }).linesOk = true ∧ quiet.linesOk = true ∧
    (∃ t, step quiet = .next t) ∧ quiet.model.phase = .main ∧ subState.model.phase = .sub ∧
    ∃ t, step subState = .next t := ⟨by decide, by decide, ⟨_, rfl⟩, rfl, rfl, _, rfl⟩

theorem witness_StepKeepsConfiguration :
    HostEvent.reset ∉ { quiet with model.hostIn := [.postUart 0x90#8, .tick] }.model.hostIn ∧
    ∃ t, step { quiet with model.hostIn := [.postUart 0x90#8, .tick] } = .next t := ⟨by decide, _, rfl⟩

theorem witness_ResetFromAnyState :
    quiet.params.variant = .mk2 ∧ { quiet with params.variant := .mk1 }.params.variant = .mk1 ∧
    vectorInRom quiet.params 0 := by
  refine ⟨rfl, rfl, fun rame k hk => ?_⟩
  have h : ∀ (r : Bool) (j : Fin 4), busTarget quiet.params r (BitVec.ofNat 20 (4 * 0 + j.1)) = .rom1 (4 * 0 + j.1) := by
    decide
  exact h rame ⟨k, hk⟩

end Sys2Proof.Tests
end

section
/-! Proofs. What the two cores can do to the state, said once: every instruction, every fetch and every interrupt entry is a
chain of the model's own writes of one register, flag or request and of accesses of the two buses. A fact about all of them is
then one induction over such chains. -/

namespace Sys2Proof.Machine

/-- P gains no B bit: B exists in pushed copies alone (R425, R426). -/
def GainsNoB (p q : Byte) : Prop := p.getLsbD 4 = false → q.getLsbD 4 = false

/-- `t` is reached from `s` by what the cores do themselves: writes of registers and requests, reads and writes of the two
buses. The host, the passage of time and reset are not among them. -/
inductive Moves (s : State) : State → Prop
  | refl : Moves s s
  | setReg {t n v} (h : Moves s t) : Moves s (t.setReg n v)
  | setPc {t v} (h : Moves s t) : Moves s (t.setPc v)
  | setCp {t v} (h : Moves s t) : Moves s (t.setCp v)
  | setNzvc {t f} (h : Moves s t) : Moves s (t.setNzvc f)
  | crWrite {t cr v} (h : Moves s t) : Moves s (t.crWrite cr v)
  | clearT {t} (h : Moves s t) : Moves s t.clearT
  | setI {t l} (h : Moves s t) : Moves s (t.setI l)
  | setSleep {t b} (h : Moves s t) : Moves s { t with cpu.sleep := b }
  | setSuppress {t b} (h : Moves s t) : Moves s { t with cpu.suppress := b }
  | request {t k} (h : Moves s t) : Moves s (requestException k t)
  | dropRequest {t} (h : Moves s t) : Moves s { t with cpu.excSlot := none }
  | requestTrap {t n} (h : Moves s t) : Moves s (requestTrap n t)
  | clearTrap {t n} (h : Moves s t) : Moves s (clearTrap n t)
  | drawn {t n} (h : Moves s t) : Moves s (t.drawn n)
  | read8 {t pa} (h : Moves s t) : Moves s (read8 pa t).2
  | write8 {t pa v} (h : Moves s t) : Moves s (write8 pa v t)
  | setA {t v} (h : Moves s t) : Moves s (t.setA v)
  | setX {t v} (h : Moves s t) : Moves s (t.setX v)
  | setY {t v} (h : Moves s t) : Moves s (t.setY v)
  | setS {t v} (h : Moves s t) : Moves s (t.setS v)
  | setP {t v} (h : Moves s t) (hb : GainsNoB t.sub.p v) : Moves s (t.setP v)
  | setSpc {t v} (h : Moves s t) : Moves s (t.setSpc v)
  | subRead {t a} (h : Moves s t) : Moves s (subRead a t).2
  | subWrite {t a v} (h : Moves s t) : Moves s (subWrite a v t)

/-- Every next state a meaning can give is reached from `s` by moves. -/
def Leads (s : State) (r : Result) : Prop := ∀ t, r = .next t → Moves s t

variable {s t : State}

theorem Moves.trans {u : State} (h : Moves s t) (g : Moves t u) : Moves s u := by
  induction g with
  | refl => exact h
  | setP _ hb ih => exact ih.setP hb
  | setReg _ ih => exact ih.setReg
  | setPc _ ih => exact ih.setPc
  | setCp _ ih => exact ih.setCp
  | setNzvc _ ih => exact ih.setNzvc
  | crWrite _ ih => exact ih.crWrite
  | clearT _ ih => exact ih.clearT
  | setI _ ih => exact ih.setI
  | setSleep _ ih => exact ih.setSleep
  | setSuppress _ ih => exact ih.setSuppress
  | request _ ih => exact ih.request
  | dropRequest _ ih => exact ih.dropRequest
  | requestTrap _ ih => exact ih.requestTrap
  | clearTrap _ ih => exact ih.clearTrap
  | drawn _ ih => exact ih.drawn
  | read8 _ ih => exact ih.read8
  | write8 _ ih => exact ih.write8
  | setA _ ih => exact ih.setA
  | setX _ ih => exact ih.setX
  | setY _ ih => exact ih.setY
  | setS _ ih => exact ih.setS
  | setSpc _ ih => exact ih.setSpc
  | subRead _ ih => exact ih.subRead
  | subWrite _ ih => exact ih.subWrite

theorem Leads.next (h : Moves s t) : Leads s (.next t) := fun _ e => Host.Outcome.next.inj e ▸ h

theorem Leads.refused (x : Refusal) : Leads s (.refused x) := by intro _ e; cases e

/-! ## The main core's operations -/

namespace Moves

theorem setSr {v : Word} (h : Moves s t) : Moves s (t.setSr v) := h.crWrite (cr := .sr)

theorem setRegW {sz : Size} {n : Reg} {v : Word} (h : Moves s t) : Moves s (t.setRegW sz n v) := h.setReg

theorem checkAligned {pa : BusAddr} (h : Moves s t) : Moves s (checkAligned pa t) := by
  unfold Machine.checkAligned
  split
  · exact h.request
  · exact h

theorem memRead {sz : Size} {pa : BusAddr} (h : Moves s t) : Moves s (memRead sz pa t).2 := by
  cases sz with
  | byte => exact h.read8
  | word => exact h.checkAligned.read8.read8

theorem memWrite {sz : Size} {pa : BusAddr} {v : Word} (h : Moves s t) : Moves s (memWrite sz pa v t) := by
  cases sz with
  | byte => exact h.write8
  | word => exact h.checkAligned.write8.write8

theorem push16 {v : Word} (h : Moves s t) : Moves s (push16 v t) := h.setReg.memWrite (sz := .word)

theorem pop16 (h : Moves s t) : Moves s (pop16 t).2 := (h.memRead (sz := .word)).setReg

theorem readOp {sz : Size} {o : Operand} (h : Moves s t) : Moves s (readOp sz o t).2 := by
  cases o with
  | reg n => exact h
  | mem pa => exact h.memRead
  | imm v => exact h

theorem writeOp {sz : Size} {o : Operand} {v : Word} (h : Moves s t) : Moves s (writeOp sz o v t) := by
  cases o with
  | reg n => exact h.setRegW
  | mem pa => exact h.memWrite
  | imm _ => exact h

/-- Only pre-decrement and post-increment change the state (R164, R166). -/
theorem resolveEA {ea : EA} (h : Moves s t) : Moves s (resolveEA ea t).2 := by
  cases ea with
  | preDec sz n => exact h.setReg
  | postInc sz n => exact h.setReg
  | _ => exact h

theorem loadVector {v : Nat} (h : Moves s t) : Moves s (loadVector v t) := h.read8.read8.read8.read8.setCp.setPc

theorem enterStatus {m : Option (BitVec 3)} (h : Moves s t) : Moves s (enterStatus m t) := by
  cases m with
  | none => exact h.clearT.setSleep
  | some l => exact h.clearT.setI.setSleep

theorem enter {v : Nat} {m : Option (BitVec 3)} (h : Moves s t) : Moves s (enter v m t) :=
  h.push16.push16.push16.enterStatus.loadVector

theorem returnFromException (h : Moves s t) : Moves s (returnFromException t) :=
  h.pop16.pop16.pop16.setSr.setCp.setPc.setSuppress

theorem interruptCheck (h : Moves s t) : Moves s (interruptCheck t) := by
  unfold Machine.interruptCheck
  split
  · exact h.clearTrap.enter
  · split
    · exact h.dropRequest.enter
    · split
      · exact h.enter
      · split
        · exact h.enter
        · exact h

theorem boundaryCheck (h : Moves s t) : Moves s (boundaryCheck t) := by
  unfold Machine.boundaryCheck
  split
  · exact h.setSuppress
  · exact h.interruptCheck

theorem moveToReg {sz : Size} {n : Reg} {v : Word} (h : Moves s t) : Moves s (moveToReg sz n v t) := h.setRegW.setNzvc

theorem moveToMem {sz : Size} {pa : BusAddr} {v : Word} (h : Moves s t) : Moves s (moveToMem sz pa v t) :=
  h.memWrite.setNzvc

theorem popList {l : Byte} : ∀ (rs : List Reg) {t : State}, Moves s t → Moves s (popList l rs t)
  | [], _, h => h
  | n :: rs, t, h => by
    unfold Machine.popList
    split
    · exact popList rs h.pop16.setReg
    · exact popList rs h

theorem pushList {l : Byte} : ∀ (rs : List Reg) {t : State}, Moves s t → Moves s (pushList l rs t)
  | [], _, h => h
  | n :: rs, t, h => by
    unfold Machine.pushList
    split
    · exact pushList rs h.push16
    · exact pushList rs h

theorem storeQuotient {sz : Size} {n : Reg} {q r : Nat} (h : Moves s t) : Moves s (storeQuotient sz n q r t) := by
  cases sz with
  | byte => exact h.setReg
  | word => exact h.setReg.setReg

theorem divideByZero {sz : Size} {n : Reg} (h : Moves s t) : Moves s (divideByZero sz n t) := by
  cases sz with
  | byte => exact h.setReg.setNzvc.drawn
  | word => exact h.setReg.setReg.setNzvc.drawn

theorem callTo {a : Word} (h : Moves s t) : Moves s (callTo a t) := h.push16.setPc

theorem pageCallTo {p : Byte} {a : Word} (h : Moves s t) : Moves s (pageCallTo p a t) := h.push16.push16.setCp.setPc

theorem returnNear (h : Moves s t) : Moves s (returnNear t) := h.pop16.setPc

theorem returnFar (h : Moves s t) : Moves s (returnFar t) := h.pop16.pop16.setCp.setPc

theorem loopStep {n : Reg} {d : Byte} (h : Moves s t) : Moves s (loopStep n d t) := h.setReg.setPc

theorem traceTest (h : Moves s t) : Moves s (traceTest t) := by
  unfold Machine.traceTest
  split
  · exact h.request
  · exact h

end Moves

/-! ## The shapes of the general format -/

namespace Leads

theorem general {a : Bool} {ea : EA} {k : Operand → State → State} (hk : ∀ o u, Moves s u → Moves s (k o u)) :
    Leads s (general a ea s k) := by
  refine .next ?_
  split
  · exact hk _ _ (.resolveEA .refl)
  · exact (Moves.resolveEA .refl).request

theorem reading {a : Bool} {ea : EA} {k : Word → State → State} (hk : ∀ v u, Moves s u → Moves s (k v u)) :
    Leads s (reading a ea s k) := general fun _ _ h => hk _ _ h.readOp

theorem modifying {a : Bool} {ea : EA} {f : Word → State → Alu} : Leads s (modifying a ea s f) :=
  general fun _ _ h => h.readOp.writeOp.setNzvc

theorem intoReg {ea : EA} {n : Reg} {f : Word → Word → Nzvc → Alu} : Leads s (intoReg ea n s f) :=
  reading fun _ _ h => h.setRegW.setNzvc

theorem mulxu (ea : EA) (n : Reg) : Leads s (execMulxu ea n s) :=
  reading fun _ _ h => by
    split
    · exact h.setReg.setNzvc
    · exact h.setReg.setReg.setNzvc

theorem divxu (ea : EA) (n : Reg) : Leads s (execDivxu ea n s) :=
  reading fun _ _ h => by
    split
    · exact h.divideByZero
    · exact h.setNzvc.drawn
    · exact h.storeQuotient.setNzvc

/-- A meaning of a register operand alone (R203, R204, R244, R245). -/
theorem onRegister {a : Bool} {ea : EA} {k : Reg → State → State} (hk : ∀ d u, Moves s u → Moves s (k d u)) :
    Leads s (Machine.general a ea s fun o u => match o with
      | .reg d => k d u
      | _ => u) :=
  general fun o u h => by
    cases o with
    | reg d => exact hk d u h
    | mem _ => exact h
    | imm _ => exact h

theorem ldm (l : Byte) : Leads s (execLdm l s) := by
  unfold execLdm
  split
  · exact .refused _
  · exact .next (.popList _ .refl)

theorem stm (l : Byte) : Leads s (execStm l s) := by
  unfold execStm
  split
  · exact .refused _
  · exact .next (.pushList _ .refl)

/-- `PJMP @Rn` and `PJSR @Rn`: R[7] is turned away (R131). -/
theorem unlessSp {n : Reg} {u : State} (hu : Moves s u) :
    Leads s (.next (if n = .r7 then requestException .invalidInstruction s else u)) := by
  refine .next ?_
  split
  · exact Moves.refl.request
  · exact hu

/-- SCB/NE and SCB/EQ: nothing, or the counter's step (R331, R332). -/
theorem scb {b : Bool} {n : Reg} {d : Byte} : Leads s (.next (if b then s else loopStep n d s)) := by
  refine .next ?_
  split
  · exact .refl
  · exact .loopStep .refl

end Leads

/-! ## The sub core's operations -/

theorem GainsNoB.refl (p : Byte) : GainsNoB p p := id

theorem GainsNoB.withBit {p q : Byte} {i : Nat} {b : Bool} (h : GainsNoB p q) (hi : i ≠ 4) :
    GainsNoB p (withBit i b q) := fun hp => by
  have hq := h hp
  unfold Machine.withBit
  split <;> simp_all
  omega

theorem GainsNoB.nz8 {p q r : Byte} (h : GainsNoB p q) : GainsNoB p (nz8 r q) :=
  (h.withBit (by decide)).withBit (by decide)

/-- A pulled P has no B (R426, R463). -/
theorem GainsNoB.pulled (p v : Byte) : GainsNoB p (v &&& 0xEF#8) := fun _ => by simp

theorem adc8_gainsNoB (a m p : Byte) : GainsNoB p (adc8 a m p).2 :=
  (((GainsNoB.refl p).withBit (by decide)).withBit (by decide)).nz8

theorem cmp8_gainsNoB (r m p : Byte) : GainsNoB p (cmp8 r m p) := ((GainsNoB.refl p).withBit (by decide)).nz8

theorem shiftResult_gainsNoB (c : Bool) (r p : Byte) : GainsNoB p (shiftResult c r p).2 :=
  ((GainsNoB.refl p).withBit (by decide)).nz8

theorem bitTestP_gainsNoB (a m p : Byte) : GainsNoB p (bitTestP a m p) :=
  (((GainsNoB.refl p).withBit (by decide)).withBit (by decide)).withBit (by decide)

/-- A store leaves P alone. -/
theorem subStore_p (o : SubPlace) (v : Byte) (u : State) : (subStore o v u).sub.p = u.sub.p := by
  cases o with
  | acc => rfl
  | imm _ => rfl
  | mem a => exact (congrArg SubCore.p (subWrite_sub u a v) :)

namespace Moves

theorem setNz8 {r : Byte} (h : Moves s t) : Moves s (t.setNz8 r) := h.setP (GainsNoB.refl _).nz8

/-- A flag of P other than B is written (R471 to R477). -/
theorem setFlag {i : Nat} {b : Bool} (h : Moves s t) (hi : i ≠ 4) : Moves s (t.setP (withBit i b t.sub.p)) :=
  h.setP ((GainsNoB.refl _).withBit hi)

theorem subPush {v : Byte} (h : Moves s t) : Moves s (subPush v t) := h.subWrite.setS

theorem subPull (h : Moves s t) : Moves s (subPull t).2 := h.setS.subRead

theorem subPushWord {v : Word} (h : Moves s t) : Moves s (subPushWord v t) := h.subPush.subPush

theorem subPullWord (h : Moves s t) : Moves s (subPullWord t).2 := h.subPull.subPull

theorem subReadWord {a b : Word} (h : Moves s t) : Moves s (subReadWord a b t).2 := h.subRead.subRead

/-- The indirect mode alone reads memory to find its place (R405). -/
theorem subPlace {m : SubMode} (h : Moves s t) : Moves s (subPlace m t).2 := by
  cases m with
  | indy z => exact h.subReadWord
  | _ => exact h

theorem subLoad {o : SubPlace} (h : Moves s t) : Moves s (subLoad o t).2 := by
  cases o with
  | acc => exact h
  | imm v => exact h
  | mem a => exact h.subRead

theorem subStore {o : SubPlace} {v : Byte} (h : Moves s t) : Moves s (subStore o v t) := by
  cases o with
  | acc => exact h.setA
  | imm _ => exact h
  | mem a => exact h.subWrite

theorem subOperand {m : SubMode} (h : Moves s t) : Moves s (subOperand m t).2 := h.subPlace.subLoad

theorem subModify {m : SubMode} {f : Byte → Byte → Byte × Byte} (hf : ∀ v p, GainsNoB p (f v p).2) (h : Moves s t) :
    Moves s (subModify m t f) :=
  h.subPlace.subLoad.subStore.setP (by rw [subStore_p]; exact hf _ _)

theorem subAccOp {m : SubMode} {f : Byte → Byte → Byte} (h : Moves s t) : Moves s (subAccOp m t f) := by
  unfold Machine.subAccOp
  extract_lets o u r
  split
  · exact h.subOperand.setA.setNz8.drawn
  · exact h.subOperand.setA.setNz8

theorem subArithOp {m : SubMode} {f : Byte → Byte → Byte → Byte × Byte} (hf : ∀ a v p, GainsNoB p (f a v p).2)
    (h : Moves s t) : Moves s (subArithOp m t f) := by
  unfold Machine.subArithOp
  extract_lets o u d r
  split
  · exact (h.subOperand.setA.setP
      ((((GainsNoB.refl _).withBit (by decide)).withBit (by decide)).nz8)).drawn
  · exact h.subOperand.setA.setP (hf _ _ _)

theorem subBranchIf {b : Bool} {r : Byte} (h : Moves s t) : Moves s (subBranchIf b r t) := h.setSpc

theorem subEnter {j : Nat} (h : Moves s t) : Moves s (subEnter j t) :=
  ((h.subPushWord.subPush).setFlag (by decide)).subReadWord.setSpc

theorem subInterruptCheck (h : Moves s t) : Moves s (subInterruptCheck t) := by
  unfold Machine.subInterruptCheck
  split
  · exact h
  · split
    · exact h.subEnter
    · exact h

end Moves

theorem Leads.s8Cmp (m : SubMode) : Leads s (execS8Cmp m s) := by
  unfold execS8Cmp
  extract_lets o u d
  refine .next ?_
  split
  · exact ((Moves.subOperand .refl).setP ((GainsNoB.refl _).withBit (by decide)).nz8).drawn
  · exact (Moves.subOperand .refl).setP (cmp8_gainsNoB _ _ _)

/-! ## Every instruction -/

/-- Whatever an instruction does, it does by moves. -/
theorem exec_leads (i : Instr) (s : State) : Leads s (exec i s) := by
  cases i <;> unfold exec
  case eaReg | eaPreDec | eaPostInc | eaInd | eaDisp8 | eaDisp16 | eaAbs8 | eaAbs16 | eaImm8 | eaImm16 =>
    exact .next (.resolveEA .refl)
  case movGLoad => exact .reading fun _ _ h => h.moveToReg
  case movGStore | movGImm8 | movGImm16 | clr => exact .general fun _ _ h => h.writeOp.setNzvc
  case xch => exact .onRegister fun _ _ h => h.setReg.setReg
  case swap => exact .onRegister fun _ _ h => h.moveToReg
  case exts | extu => exact .onRegister fun _ _ h => h.setReg.setNzvc
  case movE | movI => exact .next (.moveToReg .refl)
  case movL | movFLoad => exact .next (.moveToReg (.memRead .refl))
  case movS | movFStore => exact .next (.moveToMem .refl)
  case ldm l => exact .ldm l
  case stm l => exact .stm l
  case addG | addx | sub | subx | and | or | xor => exact .intoReg
  case addQ | neg | tas | not | shal | shar | shll | shlr | rotl | rotr | rotxl | rotxr | bsetI | bsetR | bclrI | bclrR
      | bnotI | bnotR => exact .modifying
  case adds | subs => exact .reading fun _ _ h => h.setReg
  case cmpG | cmpGImm8 | cmpGImm16 | tst | btstI | btstR => exact .reading fun _ _ h => h.setNzvc
  case cmpE | cmpI => exact .next (.setNzvc .refl)
  case mulxu ea n => exact .mulxu ea n
  case divxu ea n => exact .divxu ea n
  case bra | brn | bhi | bls | bcc | bcs | bne | beq | bvc | bvs | bpl | bmi | bge | blt | bgt | ble | jmpAbs | jmpInd =>
    exact .next (.setPc .refl)
  case bsr | jsrAbs | jsrInd => exact .next (.callTo .refl)
  case pjmpAbs => exact .next (.setPc (.setCp .refl))
  case pjsrAbs => exact .next (.pageCallTo .refl)
  case pjmpInd => exact .unlessSp (.setPc (.setCp .refl))
  case pjsrInd => exact .unlessSp (.pageCallTo .refl)
  case rts => exact .next (.returnNear .refl)
  case prts => exact .next (.returnFar .refl)
  case rtd => exact .next (.setReg (.returnNear .refl))
  case prtd => exact .next (.setReg (.returnFar .refl))
  case scbF => exact .next (.loopStep .refl)
  case scbNe | scbEq => exact .scb
  case link => exact .next (.setReg (.setReg (.push16 .refl)))
  case unlk => exact .next (.setReg (.pop16 (.setReg .refl)))
  case ldc | andc | orc | xorc => exact .reading fun _ _ h => h.crWrite.setSuppress
  case stc => exact .general fun _ _ h => h.writeOp
  case trapa => exact .next (.requestTrap .refl)
  case rte => exact .next (.returnFromException .refl)
  case sleep => exact .next (.setSleep .refl)
  case nop | s8Nop => exact .next .refl
  case s8Lda | s8And | s8Ora | s8Eor => exact .next (.subAccOp .refl)
  case s8Ldx => exact .next (.setNz8 (.setX (.subOperand .refl)))
  case s8Ldy => exact .next (.setNz8 (.setY (.subOperand .refl)))
  case s8Sta | s8Stx | s8Sty => exact .next (.subStore (.subPlace .refl))
  case s8Ldm => exact .next (.subWrite .refl)
  case s8Tax | s8Tsx | s8Inx | s8Dex => exact .next (.setNz8 (.setX .refl))
  case s8Tay | s8Iny | s8Dey => exact .next (.setNz8 (.setY .refl))
  case s8Txa | s8Tya => exact .next (.setNz8 (.setA .refl))
  case s8Txs => exact .next (.setS .refl)
  case s8Pha | s8Php => exact .next (.subPush .refl)
  case s8Pla => exact .next (.setNz8 (.setA (.subPull .refl)))
  case s8Plp => exact .next (.setP (.subPull .refl) (.pulled _ _))
  case s8Adc => exact .next (.subArithOp adc8_gainsNoB .refl)
  case s8Sbc => exact .next (.subArithOp (fun a m p => adc8_gainsNoB a (m ^^^ 0xFF#8) p) .refl)
  case s8Cmp m => exact .s8Cmp m
  case s8Cpx | s8Cpy => exact .next (.setP (.subOperand .refl) (cmp8_gainsNoB _ _ _))
  case s8Inc | s8Dec => exact .next (.subModify (fun _ p => (GainsNoB.refl p).nz8) .refl)
  case s8Asl | s8Lsr | s8Rol | s8Ror => exact .next (.subModify (fun _ _ => shiftResult_gainsNoB _ _ _) .refl)
  case s8Bit => exact .next (.setP (.subOperand .refl) (bitTestP_gainsNoB _ _ _))
  case s8Bpl | s8Bmi | s8Bvc | s8Bvs | s8Bcc | s8Bcs | s8Bne | s8Beq | s8Bra | s8JmpAbs => exact .next (.setSpc .refl)
  case s8JmpInd => exact .next (.setSpc (.subReadWord .refl))
  case s8Jsr => exact .next (.setSpc (.subPushWord .refl))
  case s8Rts => exact .next (.setSpc (.subPullWord .refl))
  case s8Rti => exact .next (.setSpc (.subPullWord (.setP (.subPull .refl) (.pulled _ _))))
  case s8Brk =>
    exact .next (.setSpc (.subReadWord (.setFlag (.subPush (.subPushWord .refl)) (by decide))))
  case s8Bbs | s8Bbc => exact .next (.subBranchIf (.subLoad .refl))
  case s8Seb | s8Clb => exact .next (.subStore (.subLoad .refl))
  case s8Clc | s8Sec | s8Cli | s8Sei | s8Clv | s8Cld | s8Clt => exact .next (.setFlag .refl (by decide))

/-! ## Fetch and execution -/

theorem Moves.fetchMain : ∀ (n : Nat) (bs : List Byte) {t : State}, Moves s t → Moves s (fetchMain n bs t).2
  | 0, _, _, h => h
  | n + 1, bs, t, h => by
    unfold Machine.fetchMain
    split
    · exact fetchMain n _ h.read8.setPc
    · exact h

theorem Moves.subFetch8 (h : Moves s t) : Moves s (subFetch8 t).2 := h.subRead.setSpc

theorem Moves.fetchSub : ∀ (n : Nat) (bs : List Byte) {t : State}, Moves s t → Moves s (fetchSub n bs t).2
  | 0, _, _, h => h
  | n + 1, bs, t, h => by
    unfold Machine.fetchSub
    split
    · exact fetchSub n _ h.subFetch8
    · exact h

theorem Moves.exec {i : Instr} {u : State} (h : Moves s t) (hx : exec i t = .next u) : Moves s u :=
  h.trans (exec_leads i t u hx)

theorem runDecoded_moves {d : Decoded} {u : State} (h : Moves s t) (hr : runDecoded d t = .next u) : Moves s u := by
  unfold runDecoded at hr
  cases d with
  | ok i rest =>
    dsimp only at hr
    split at hr <;> cases hr
    next hx => exact (h.exec hx).traceTest
  | reservedOp i rest =>
    dsimp only at hr
    split at hr <;> cases hr
    next hx => exact (h.exec hx).request.traceTest
  | reserved rest =>
    cases hr
    exact h.request.traceTest
  | more =>
    cases hr
    exact h.request.traceTest

/-- Only a whole instruction runs on the sub core: everything else is refused (R470). -/
theorem runSubDecoded_next {opcode : Byte} {d : Decoded} {u : State} (h : Moves s t)
    (hr : runSubDecoded opcode d t = .next u) : ∃ v, Moves s v ∧ u = afterSubInstruction v := by
  unfold runSubDecoded at hr
  cases d with
  | ok i rest =>
    dsimp only at hr
    split at hr <;> cases hr
    next v hx => exact ⟨v, h.exec hx, rfl⟩
  | reservedOp i rest => cases hr
  | reserved rest => cases hr
  | more => cases hr

/-- The main part of a quantum from the instruction on: moves, then the passage of time (R150). -/
theorem instructionPart_next {u : State} (h : instructionPart s = .next u) :
    ∃ t, Moves s t ∧ u = afterInstruction t := by
  unfold instructionPart at h
  split at h <;> cases h
  next t ht =>
    refine ⟨t, ?_, rfl⟩
    split at ht
    · cases ht
      exact .refl
    · exact runDecoded_moves (.fetchMain _ _ .refl) ht

/-- SubStep from the fetch on: moves, then the passage of sub-core time (R403). -/
theorem subInstructionPart_next {u : State} (h : subInstructionPart s = .next u) :
    ∃ t, Moves s t ∧ u = afterSubInstruction t :=
  runSubDecoded_next (.fetchSub _ _ (.subFetch8 .refl)) h

/-- What one step can do: on the main core's turn the host's actions, moves, and the passage of time; on the sub core's turn
SubDevUpdate, moves, and the passage of sub-core time (R150, R591). -/
theorem step_next {u : State} (h : step s = .next u) :
    (s.model.phase = .main ∧ ∃ t, Moves (takeHost s.model.hostIn s) t ∧ u = afterInstruction t) ∨
    (s.model.phase = .sub ∧ ∃ t, Moves (subDevUpdate s) t ∧ u = afterSubInstruction t) := by
  unfold step quantumStep at h
  split at h
  · obtain ⟨t, ht, rfl⟩ := instructionPart_next h
    exact .inl ⟨‹_›, t, (Moves.boundaryCheck .refl).trans ht, rfl⟩
  · obtain ⟨t, ht, rfl⟩ := subInstructionPart_next h
    exact .inr ⟨‹_›, t, (Moves.subInterruptCheck .refl).trans ht, rfl⟩

end Sys2Proof.Machine
end

section
/-! Proofs. The configuration and the four counters through a step (R18, R30, R150, R570, R591, R630, R653). -/

namespace Sys2Proof.Machine

/-- What no step writes: the parameters, ROM1, ROM2, SUBROM, WAVEROM. -/
def State.config (s : State) : Params × Memory × Memory × Memory × Memory :=
  (s.params, s.mem.rom1, s.mem.rom2, s.sub.rom, s.pcm.waveRom)

/-- `cycles`, `tclk`, `pcm_cycles`, `sub_cycles`, ordered counter by counter. -/
def State.counters (s : State) : Nat × Nat × Nat × Nat :=
  (s.cpu.cycles, s.dev.tclk, s.pcm.pcmCycles, s.sub.cycles)

variable {s t : State}

theorem State.counters_le_iff : s.counters ≤ t.counters ↔
    s.cpu.cycles ≤ t.cpu.cycles ∧ s.dev.tclk ≤ t.dev.tclk ∧ s.pcm.pcmCycles ≤ t.pcm.pcmCycles ∧
      s.sub.cycles ≤ t.sub.cycles := Iff.rfl

/-! ## Accesses of the buses -/

@[simp] theorem setFrt_tclk (d : Dev) (k : FrtId) (f : Frt) : (d.setFrt k f).tclk = d.tclk := by cases k <;> rfl

theorem pcmRead_counters (r : BitVec 6) (s : State) : (pcmRead r s).2.counters = s.counters := by
  unfold pcmRead; split <;> rfl

theorem windowRead_counters (i : Nat) (s : State) : (windowRead i s).2.counters = s.counters := by
  unfold windowRead; split_ifs <;> rfl

theorem devRead_counters (i : Nat) (s : State) : (devRead i s).2.counters = s.counters := by
  unfold devRead
  cases devReg i with
  | frt k r => cases r <;> simp [State.counters]
  | _ => rfl

/-- A read of the main core's bus moves no counter. -/
theorem read8_counters (pa : BusAddr) (s : State) : (read8 pa s).2.counters = s.counters := by
  unfold read8
  cases s.target pa with
  | pcm r => exact pcmRead_counters r s
  | shared i => exact windowRead_counters i s
  | dev i => exact devRead_counters i s
  | _ => rfl

theorem pcmWrite_counters (r : BitVec 6) (v : Byte) (s : State) : (pcmWrite r v s).counters = s.counters := by
  unfold pcmWrite; split <;> rfl

theorem windowWrite_counters (i : Nat) (v : Byte) (s : State) : (windowWrite i v s).counters = s.counters := by
  unfold windowWrite; split_ifs <;> rfl

theorem devWrite_counters (pa : BusAddr) (i : Nat) (v : Byte) (s : State) :
    (devWrite pa i v s).counters = s.counters := by
  unfold devWrite
  cases devReg i with
  | frt k r => cases r <;> simp [State.counters, timerLines]
  | _ => rfl

/-- A write of the main core's bus moves no counter: `tclk` and `pcm_cycles` are at no address. -/
theorem write8_counters (pa : BusAddr) (v : Byte) (s : State) : (write8 pa v s).counters = s.counters := by
  unfold write8
  cases s.target pa with
  | pcm r => exact pcmWrite_counters r v s
  | shared i => exact windowWrite_counters i v s
  | dev i => exact devWrite_counters pa i v s
  | _ => rfl

/-- No access of the main core's bus writes the configuration: ROM takes no write (R72, R83). -/
theorem read8_config (pa : BusAddr) (s : State) : (read8 pa s).2.config = s.config := by simp [State.config]

theorem write8_config (pa : BusAddr) (v : Byte) (s : State) : (write8 pa v s).config = s.config := by
  simp [State.config]

/-- The sub core's bus touches the link, SUBRAM and the host's record alone (R402). -/
theorem subRead_config_counters (a : Word) (s : State) :
    (subRead a s).2.config = s.config ∧ (subRead a s).2.counters = s.counters := by
  obtain ⟨l, h, -⟩ := subRead_shape s a
  rw [h]
  exact ⟨rfl, rfl⟩

theorem subWrite_config_counters (a : Word) (v : Byte) (s : State) :
    (subWrite a v s).config = s.config ∧ (subWrite a v s).counters = s.counters := by
  obtain ⟨l, ram, o, h⟩ := subWrite_shape s a v
  rw [h]
  exact ⟨rfl, rfl⟩

/-! ## The cores' own moves -/

theorem crWrite_config_counters (cr : CReg) (v : Word) (s : State) :
    (s.crWrite cr v).config = s.config ∧ (s.crWrite cr v).counters = s.counters := by
  cases cr <;> exact ⟨rfl, rfl⟩

/-- The cores write neither the configuration nor a counter. -/
theorem Moves.config_counters (h : Moves s t) : t.config = s.config ∧ t.counters = s.counters := by
  induction h with
  | refl => exact ⟨rfl, rfl⟩
  | read8 _ ih => exact ⟨(read8_config _ _).trans ih.1, (read8_counters _ _).trans ih.2⟩
  | write8 _ ih => exact ⟨(write8_config _ _ _).trans ih.1, (write8_counters _ _ _).trans ih.2⟩
  | subRead _ ih => exact (subRead_config_counters _ _).imp (·.trans ih.1) (·.trans ih.2)
  | subWrite _ ih => exact (subWrite_config_counters _ _ _).imp (·.trans ih.1) (·.trans ih.2)
  | crWrite _ ih => exact (crWrite_config_counters _ _ _).imp (·.trans ih.1) (·.trans ih.2)
  | _ => assumption

/-! ## The host -/

/-- `Reset()` keeps ROM, WAVEROM and the parameters (R653). -/
theorem hostReset_config (s : State) : (hostReset s).config = s.config := by
  have hv : (loadVector 0 (resetRegisters s)).config = s.config := (Moves.loadVector .refl).config_counters.1
  unfold hostReset loadSubVector
  split
  · exact hv
  · exact (Moves.setSpc (.subReadWord .refl)).config_counters.1.trans hv

theorem postUart_config_counters (b : Byte) (s : State) :
    (postUart b s).config = s.config ∧ (postUart b s).counters = s.counters := by
  unfold postUart
  split
  · exact ⟨rfl, rfl⟩
  · split <;> exact ⟨rfl, rfl⟩

theorem hostEvent_config (e : HostEvent) (s : State) : (hostEvent e s).config = s.config := by
  cases e with
  | reset => exact hostReset_config s
  | postUart b => exact (postUart_config_counters b s).1
  | _ => rfl

/-- Reset is the one action of the host that moves a counter. -/
theorem hostEvent_counters (e : HostEvent) (s : State) (he : e ≠ .reset) : (hostEvent e s).counters = s.counters := by
  cases e with
  | reset => exact absurd rfl he
  | postUart b => exact (postUart_config_counters b s).2
  | _ => rfl

/-- An event other than a tick is taken, and the rest of the list after it. -/
theorem takeHost_cons (e : HostEvent) (es : List HostEvent) (s : State) (he : e ≠ .tick) :
    takeHost (e :: es) s = takeHost es (hostEvent e s) := by
  cases e with
  | tick => exact absurd rfl he
  | _ => rfl

theorem takeHost_config (es : List HostEvent) (s : State) : (takeHost es s).config = s.config := by
  induction es generalizing s with
  | nil => rfl
  | cons e es ih =>
    by_cases he : e = .tick
    · subst he
      rfl
    · rw [takeHost_cons e es s he, ih, hostEvent_config]

theorem takeHost_counters (es : List HostEvent) (s : State) (hr : .reset ∉ es) :
    (takeHost es s).counters = s.counters := by
  induction es generalizing s with
  | nil => rfl
  | cons e es ih =>
    obtain ⟨hne, hes⟩ := List.ne_and_not_mem_of_not_mem_cons hr
    by_cases he : e = .tick
    · subst he
      rfl
    · rw [takeHost_cons e es s he, ih _ hes, hostEvent_counters e s hne.symm]

/-! ## The passage of time -/

/-- The voice loop of a tick leaves WAVEROM and `pcm_cycles` (R631, R634). -/
theorem stepVoices_waveRom_pcmCycles (active : BitVec 32) (k n : Nat) (m : Pcm) :
    (Pcm.stepVoices active k n m).waveRom = m.waveRom ∧ (Pcm.stepVoices active k n m).pcmCycles = m.pcmCycles := by
  induction k generalizing n m with
  | zero => exact ⟨rfl, rfl⟩
  | succ k ih =>
    unfold Pcm.stepVoices
    split <;> exact ih _ _

theorem pcmTick_config (s : State) : (pcmTick s).config = s.config := by
  have hw : (s.pcm.tick s.params).waveRom = s.pcm.waveRom := (stepVoices_waveRom_pcmCycles _ _ _ _).1
  simp [State.config, pcmTick, hw]

/-- A tick of the engine advances `pcm_cycles` by its period and no other counter (R630). -/
theorem counters_le_pcmTick (s : State) : s.counters ≤ (pcmTick s).counters := by
  have hc : (s.pcm.tick s.params).pcmCycles = s.pcm.pcmCycles := (stepVoices_waveRom_pcmCycles _ _ _ _).2
  simp [State.counters_le_iff, pcmTick, hc]

theorem pcmTicks_config_counters (n : Nat) (s : State) :
    (pcmTicks n s).config = s.config ∧ s.counters ≤ (pcmTicks n s).counters := by
  induction n generalizing s with
  | zero => exact ⟨rfl, le_rfl⟩
  | succ n ih => exact ⟨(ih _).1.trans (pcmTick_config s), (counters_le_pcmTick s).trans (ih _).2⟩

/-- A timer clock advances `tclk` by one and no other counter (R570). -/
theorem timerClock_config_counters (s : State) :
    (timerClock s).config = s.config ∧ s.counters ≤ (timerClock s).counters :=
  ⟨rfl, State.counters_le_iff.2 ⟨le_rfl, Nat.le_succ _, le_rfl, le_rfl⟩⟩

theorem timerClocks_config_counters (n : Nat) (s : State) :
    (timerClocks n s).config = s.config ∧ s.counters ≤ (timerClocks n s).counters := by
  induction n generalizing s with
  | zero => exact ⟨rfl, le_rfl⟩
  | succ n ih =>
    obtain ⟨hconfig, hcounters⟩ := timerClock_config_counters s
    exact ⟨(ih _).1.trans hconfig, hcounters.trans (ih _).2⟩

theorem pcmUpdate_config_counters (s : State) :
    (pcmUpdate s).config = s.config ∧ s.counters ≤ (pcmUpdate s).counters := pcmTicks_config_counters _ s

theorem timerUpdate_config_counters (s : State) :
    (timerUpdate s).config = s.config ∧ s.counters ≤ (timerUpdate s).counters := timerClocks_config_counters _ s

theorem addCycles_config_counters (s : State) :
    (addCycles s).config = s.config ∧ s.counters ≤ (addCycles s).counters :=
  ⟨rfl, State.counters_le_iff.2 ⟨Nat.le_add_right _ _, le_rfl, le_rfl, le_rfl⟩⟩

/-- The rest of the main part after the instruction: CPI, PcmUpdate and TimerUpdate only add to the counters (R150). -/
theorem afterInstruction_config_counters (s : State) :
    (afterInstruction s).config = s.config ∧ s.counters ≤ (afterInstruction s).counters := by
  obtain ⟨hcpi, lcpi⟩ := addCycles_config_counters s
  obtain ⟨hpcm, lpcm⟩ := pcmUpdate_config_counters (addCycles s)
  obtain ⟨htimer, ltimer⟩ := timerUpdate_config_counters (pcmUpdate (addCycles s))
  exact ⟨htimer.trans (hpcm.trans hcpi), lcpi.trans (lpcm.trans ltimer)⟩

/-- SUB_CPI is added to `sub_cycles` (R403). -/
theorem afterSubInstruction_config_counters (s : State) :
    (afterSubInstruction s).config = s.config ∧ s.counters ≤ (afterSubInstruction s).counters :=
  ⟨rfl, State.counters_le_iff.2 ⟨le_rfl, le_rfl, le_rfl, Nat.le_add_right _ _⟩⟩

/-! ## The step -/

theorem step_config (h : step s = .next t) : t.config = s.config := by
  obtain ⟨-, u, hu, rfl⟩ | ⟨-, u, hu, rfl⟩ := step_next h
  · calc (afterInstruction u).config
      _ = u.config := (afterInstruction_config_counters u).1
      _ = (takeHost s.model.hostIn s).config := hu.config_counters.1
      _ = s.config := takeHost_config _ s
  · calc (afterSubInstruction u).config
      _ = u.config := (afterSubInstruction_config_counters u).1
      _ = (subDevUpdate s).config := hu.config_counters.1
      _ = s.config := rfl

theorem counters_le_step (h : step s = .next t) (hr : .reset ∉ s.model.hostIn) : s.counters ≤ t.counters := by
  obtain ⟨-, u, hu, rfl⟩ | ⟨-, u, hu, rfl⟩ := step_next h
  · calc s.counters
      _ = (takeHost s.model.hostIn s).counters := (takeHost_counters _ s hr).symm
      _ = u.counters := hu.config_counters.2.symm
      _ ≤ (afterInstruction u).counters := (afterInstruction_config_counters u).2
  · calc s.counters
      _ = (subDevUpdate s).counters := rfl
      _ = u.counters := hu.config_counters.2.symm
      _ ≤ (afterSubInstruction u).counters := (afterSubInstruction_config_counters u).2

/-- Settles O58: the configuration by `step_config`, the counters by `counters_le_step`. -/
theorem stepKeepsConfiguration : Obligations.StepKeepsConfiguration := by
  intro s t h
  obtain ⟨hparams, hrom1, hrom2, hsub, hwave⟩ :
      t.params = s.params ∧ t.mem.rom1 = s.mem.rom1 ∧ t.mem.rom2 = s.mem.rom2 ∧ t.sub.rom = s.sub.rom ∧
        t.pcm.waveRom = s.pcm.waveRom := by
    simpa only [State.config, Prod.mk.injEq] using step_config h
  exact ⟨hparams, hrom1, hrom2, hsub, hwave, fun hr => State.counters_le_iff.1 (counters_le_step h hr)⟩

end Sys2Proof.Machine
end

section
/-! Proofs. Legal states: the bits of the timers' status registers, the slots and masks of the engine, and the kinds of
change a step is made of (R25, R38, R47, R83, R426, R575). -/

namespace Sys2Proof.Machine

variable {s t : State}

/-- `State.legal` taken apart, one field for each thing it asks. -/
structure LegalState (s : State) : Prop where
  rom1 : s.mem.rom1.wf 0x8000 = true
  rom2 : s.mem.rom2.wf s.params.rom2Len = true
  ram : s.mem.ram.wf 0x400 = true
  sram : s.mem.sram.wf 0x8000 = true
  subRom : s.sub.rom.wf 0x1000 = true
  subRam : s.sub.ram.wf 0x80 = true
  shram : s.link.shram.wf 0xC0 = true
  stored : s.link.stored.wf 0x20 = true
  sr : s.cpu.sr &&& ~~~0x870F#16 = 0#16
  p : s.sub.p.getLsbD 4 = false
  frt : ∀ k, (s.dev.frt k).statusOk = true
  tmr : s.dev.tmr.statusOk = true
  voices : s.pcm.voices.length = s.params.voiceSlots.count
  committed : s.pcm.keyonCommitted &&& ~~~(keyonMask s.params) = 0#32
  pending : s.pcm.keyonPending &&& ~~~(keyonMask s.params) = 0#32
  phase : s.model.phase = .main ∨ s.params.variant = .mk2

theorem timersOk_iff : s.timersOk = true ↔ (∀ k, (s.dev.frt k).statusOk = true) ∧ s.dev.tmr.statusOk = true := by
  have hk : (∀ k, (s.dev.frt k).statusOk = true) ↔
      s.dev.frt0.statusOk = true ∧ s.dev.frt1.statusOk = true ∧ s.dev.frt2.statusOk = true :=
    ⟨fun h => ⟨h .k0, h .k1, h .k2⟩, fun ⟨h0, h1, h2⟩ k => by cases k <;> assumption⟩
  rw [hk]
  simp [State.timersOk, and_assoc]

theorem legal_iff : s.legal = true ↔ LegalState s := by
  simp only [State.legal, Bool.and_eq_true, timersOk_iff, State.arraysOk, State.statusOk, State.voicesOk, State.phaseOk,
    beq_iff_eq, Bool.not_eq_true', Bool.or_eq_true]
  constructor
  · rintro ⟨⟨⟨⟨harrays, hsr, hp⟩, hfrt, htmr⟩, ⟨hvoices, hcom⟩, hpend⟩, hphase⟩
    obtain ⟨⟨⟨⟨⟨⟨⟨h1, h2⟩, h3⟩, h4⟩, h5⟩, h6⟩, h7⟩, h8⟩ := harrays
    exact ⟨h1, h2, h3, h4, h5, h6, h7, h8, hsr, hp, hfrt, htmr, hvoices, hcom, hpend, hphase⟩
  · rintro ⟨h1, h2, h3, h4, h5, h6, h7, h8, hsr, hp, hfrt, htmr, hvoices, hcom, hpend, hphase⟩
    have harrays := And.intro (And.intro (And.intro (And.intro (And.intro (And.intro (And.intro h1 h2) h3) h4) h5) h6) h7) h8
    exact ⟨⟨⟨⟨harrays, hsr, hp⟩, hfrt, htmr⟩, ⟨hvoices, hcom⟩, hpend⟩, hphase⟩

/-! ## The status registers of the timers -/

/-- Every shadow bit stands over a flag that is 1 (R575). -/
def ShadowWithin (flags tcsr shadow : Byte) : Prop :=
  ∀ i, shadow.getLsbD i = true → tcsr.getLsbD i = true ∧ flags.getLsbD i = true

theorem shadowWithin_iff (flags tcsr shadow : Byte) :
    shadow &&& ~~~(tcsr &&& flags) = 0#8 ↔ ShadowWithin flags tcsr shadow := by
  constructor
  · intro h i hi
    have hlt : i < 8 := BitVec.lt_of_getLsbD hi
    have hbit : (shadow &&& ~~~(tcsr &&& flags)).getLsbD i = (0#8).getLsbD i := by rw [h]
    simpa [hi, hlt] using hbit
  · intro h
    refine BitVec.eq_of_getLsbD_eq fun i hlt => ?_
    cases hi : shadow.getLsbD i with
    | false => simp [hi]
    | true => simp [hi, h i hi]

theorem Frt.statusOk_iff (f : Frt) :
    f.statusOk = true ↔ f.tcsr.getLsbD 7 = false ∧ ShadowWithin frtFlags f.tcsr f.rdShadow := by
  simp [Frt.statusOk, shadowWithin_iff]

theorem Tmr.statusOk_iff (f : Tmr) :
    f.statusOk = true ↔ f.tcsr.getLsbD 4 = false ∧ ShadowWithin tmrFlags f.tcsr f.rdShadow := by
  simp [Tmr.statusOk, shadowWithin_iff]

/-- A read marks flags that are 1 (R574). -/
theorem ShadowWithin.afterRead {flags tcsr shadow : Byte} (h : ShadowWithin flags tcsr shadow) :
    ShadowWithin flags tcsr (shadow ||| (tcsr &&& flags)) := by
  intro i hi
  have hor : shadow.getLsbD i = true ∨ tcsr.getLsbD i = true ∧ flags.getLsbD i = true := by simpa using hi
  exact hor.elim (h i) id

/-- A write clears the shadow bit of each flag it clears (R575). -/
theorem ShadowWithin.afterWrite {flags tcsr shadow : Byte} (v : Byte) (h : ShadowWithin flags tcsr shadow) :
    ShadowWithin flags (tcsrAfterWrite flags tcsr shadow v) (shadow &&& ~~~(clearedFlags flags shadow v)) := by
  intro i hi
  obtain ⟨hshadow, hcleared⟩ : shadow.getLsbD i = true ∧ (~~~(clearedFlags flags shadow v)).getLsbD i = true := by
    simpa only [BitVec.getLsbD_and, Bool.and_eq_true] using hi
  obtain ⟨htcsr, hflags⟩ := h i hshadow
  exact ⟨by simp only [tcsrAfterWrite, BitVec.getLsbD_or, BitVec.getLsbD_and, htcsr, hflags, hcleared]; rfl, hflags⟩

/-- A flag set, none cleared (R572, R577). -/
theorem ShadowWithin.orBit {flags tcsr shadow : Byte} (i : Nat) (b : Bool) (h : ShadowWithin flags tcsr shadow) :
    ShadowWithin flags (orBit i b tcsr) shadow := fun j hj => by
  obtain ⟨htcsr, hflags⟩ := h j hj
  exact ⟨by simp [Machine.orBit, htcsr], hflags⟩

theorem getLsbD_orBit {i j : Nat} (b : Bool) (v : Byte) (h : j ≠ i) : (orBit i b v).getLsbD j = v.getLsbD j := by
  cases b <;> simp [orBit, bit]
  omega

theorem Frt.afterRead_statusOk {f : Frt} (h : f.statusOk = true) : f.afterRead.statusOk = true := by
  rw [Frt.statusOk_iff] at h ⊢
  exact h.imp id .afterRead

theorem Tmr.afterRead_statusOk {f : Tmr} (h : f.statusOk = true) : f.afterRead.statusOk = true := by
  rw [Tmr.statusOk_iff] at h ⊢
  exact h.imp id .afterRead

/-- The bit of a status register that is neither a flag nor below bit 4 is written 0 (R38). -/
theorem tcsrAfterWrite_absent {flags : Byte} {i : Nat} (tcsr shadow v : Byte) (hf : flags.getLsbD i = false)
    (hi : (0x0F#8).getLsbD i = false) : (tcsrAfterWrite flags tcsr shadow v).getLsbD i = false := by
  simp only [tcsrAfterWrite, BitVec.getLsbD_or, BitVec.getLsbD_and, hf, hi, Bool.and_false, Bool.false_and, Bool.or_self]

theorem Frt.writeTcsr_statusOk {f : Frt} (v : Byte) (h : f.statusOk = true) : (f.writeTcsr v).statusOk = true := by
  rw [Frt.statusOk_iff] at h ⊢
  exact ⟨tcsrAfterWrite_absent _ _ _ (by decide) (by decide), h.2.afterWrite v⟩

theorem Tmr.writeTcsr_statusOk {f : Tmr} (v : Byte) (h : f.statusOk = true) : (f.writeTcsr v).statusOk = true := by
  rw [Tmr.statusOk_iff] at h ⊢
  exact ⟨tcsrAfterWrite_absent _ _ _ (by decide) (by decide), h.2.afterWrite v⟩

/-- No register of a free-running timer but TCSR reaches its status. -/
theorem Frt.put_statusOk {f : Frt} (r : FrtReg) (v : Byte) (h : f.statusOk = true) : (f.put r v).statusOk = true := by
  cases r with
  | tcsr => exact Frt.writeTcsr_statusOk v h
  | _ => exact h

theorem Frt.tick_statusOk {f : Frt} (cclra : Bool) (h : f.statusOk = true) : (f.tick cclra).statusOk = true := by
  rw [Frt.statusOk_iff] at h ⊢
  obtain ⟨hbit, hshadow⟩ := h
  refine ⟨?_, ((hshadow.orBit 4 _).orBit 5 _).orBit 6 _⟩
  unfold Frt.tick
  rw [getLsbD_orBit _ _ (by decide), getLsbD_orBit _ _ (by decide), getLsbD_orBit _ _ (by decide), hbit]

theorem Tmr.tick_statusOk {f : Tmr} (h : f.statusOk = true) : f.tick.statusOk = true := by
  rw [Tmr.statusOk_iff] at h ⊢
  obtain ⟨hbit, hshadow⟩ := h
  refine ⟨?_, ((hshadow.orBit 5 _).orBit 6 _).orBit 7 _⟩
  unfold Tmr.tick
  rw [getLsbD_orBit _ _ (by decide), getLsbD_orBit _ _ (by decide), getLsbD_orBit _ _ (by decide), hbit]

theorem setFrt_tmr (d : Dev) (k : FrtId) (f : Frt) : (d.setFrt k f).tmr = d.tmr := by cases k <;> rfl

@[simp] theorem frt_setFrt_same (d : Dev) (k : FrtId) (f : Frt) : (d.setFrt k f).frt k = f := by cases k <;> rfl

theorem frt_setFrt_other (d : Dev) {j k : FrtId} (f : Frt) (h : j ≠ k) : (d.setFrt k f).frt j = d.frt j := by
  cases j <;> cases k <;> first | rfl | exact absurd rfl h

/-! ## The engine -/

/-- What `LegalState` asks of the engine: its slots, and no key-on bit beyond them. -/
def Pcm.Fits (p : Params) (m : Pcm) : Prop :=
  m.voices.length = p.voiceSlots.count ∧ m.keyonCommitted &&& ~~~(keyonMask p) = 0#32 ∧
    m.keyonPending &&& ~~~(keyonMask p) = 0#32

theorem slotsOf_length (p : Params) (vs : List PcmVoice) : (slotsOf p vs).length = p.voiceSlots.count := by
  simp [slotsOf]

theorem masked_fits {w : Nat} (x m : BitVec w) : (x &&& m) &&& ~~~m = 0#w := by
  simp [BitVec.and_assoc]

theorem Pcm.afterRegRead_fits (p : Params) (r : BitVec 6) (m : Pcm) : (m.afterRegRead p r).Fits p :=
  ⟨slotsOf_length _ _, masked_fits _ _, masked_fits _ _⟩

theorem Pcm.afterRegWrite_fits {p : Params} {m : Pcm} (r : BitVec 6) (b : Byte) (h : m.Fits p) :
    (m.afterRegWrite p r b).Fits p :=
  ⟨slotsOf_length _ _, h.2.1, masked_fits _ _⟩

/-- The voice loop keeps the number of slots and the masks (R631). -/
theorem stepVoices_length_keyon (active : BitVec 32) (k n : Nat) (m : Pcm) :
    (Pcm.stepVoices active k n m).voices.length = m.voices.length ∧
    (Pcm.stepVoices active k n m).keyonCommitted = m.keyonCommitted ∧
    (Pcm.stepVoices active k n m).keyonPending = m.keyonPending := by
  induction k generalizing n m with
  | zero => exact ⟨rfl, rfl, rfl⟩
  | succ k ih =>
    have hstep : (m.stepVoice n).voices.length = m.voices.length := List.length_set
    unfold Pcm.stepVoices
    split
    · exact (ih _ _).imp_left (·.trans hstep)
    · exact ih _ _

theorem offFrom_length (c p : BitVec 32) (n : Nat) (vs : List PcmVoice) : (offFrom c p n vs).length = vs.length := by
  induction vs generalizing n with
  | nil => rfl
  | cons v vs ih => simp [offFrom, ih]

theorem Pcm.tick_fits {p : Params} {m : Pcm} (h : m.Fits p) : (m.tick p).Fits p := by
  obtain ⟨hvoices, -, hpending⟩ := h
  obtain ⟨hlength, -, hkeyon⟩ := stepVoices_length_keyon (m.keyonCommitted &&& m.keyonPending) (m.voicesPerTick p) 0
    { m with accLeft := 0, accRight := 0 }
  refine ⟨(offFrom_length _ _ _ _).trans (hlength.trans hvoices), ?_, ?_⟩ <;>
    exact (congrArg (· &&& ~~~(keyonMask p)) hkeyon).trans hpending

/-! ## One part of the state replaced -/

namespace LegalState

theorem withSr (h : LegalState s) {v : Word} (hv : v &&& ~~~0x870F#16 = 0#16) : LegalState { s with cpu.sr := v } :=
  { h with sr := hv }

theorem withFrt (h : LegalState s) (k : FrtId) {f : Frt} (hf : f.statusOk = true) :
    LegalState { s with dev := s.dev.setFrt k f } :=
  { h with
    frt := fun j => by
      by_cases hj : j = k
      · subst hj
        simpa using hf
      · simpa [frt_setFrt_other _ _ hj] using h.frt j
    tmr := by simpa [setFrt_tmr] using h.tmr }

theorem withTmr (h : LegalState s) {f : Tmr} (hf : f.statusOk = true) : LegalState { s with dev.tmr := f } :=
  { h with frt := fun k => (by cases k <;> rfl : s.dev.frt k = _) ▸ h.frt k, tmr := hf }

theorem fits (h : LegalState s) : s.pcm.Fits s.params := ⟨h.voices, h.committed, h.pending⟩

theorem withPcm (h : LegalState s) {m : Pcm} (hm : m.Fits s.params) : LegalState { s with pcm := m } :=
  { h with voices := hm.1, committed := hm.2.1, pending := hm.2.2 }

theorem withLink (h : LegalState s) {l : Link} (hs : l.shram = s.link.shram) (hd : l.stored = s.link.stored) :
    LegalState { s with link := l } :=
  { h with shram := hs ▸ h.shram, stored := hd ▸ h.stored }

end LegalState

end Sys2Proof.Machine
end

section
/-! Proofs. Every step keeps a legal state legal (R25, R38, R47, R83, R426, R575). -/

namespace Sys2Proof.Machine

variable {s t : State}

/-! ## Accesses of the buses -/

/-- A bus address leads into its unit: the index is taken modulo the unit's size (R83). -/
theorem target_inBounds (s : State) (pa : BusAddr) :
    (∀ i, s.target pa = .ram i → i < 0x400) ∧ (∀ i, s.target pa = .sram i → i < 0x8000) := by
  unfold State.target busTarget
  split
  next w _ =>
    cases w.unit <;> simp only [unitTarget, unitSize] <;>
      exact ⟨by rintro i ⟨⟩ <;> exact Nat.mod_lt _ (by decide), by rintro i ⟨⟩ <;> exact Nat.mod_lt _ (by decide)⟩
  next => exact ⟨nofun, nofun⟩

/-- Every index of the sub core's address space is within its array (R402). -/
theorem subTarget_inBounds (a : Word) :
    (∀ i, subTarget a = .ram i → i < 0x80) ∧ (∀ i, subTarget a = .dev i → i < 0x20) ∧
      (∀ i, subTarget a = .shram i → i < 0xC0) := by
  unfold subTarget
  extract_lets n
  split_ifs <;> simp only [SubTarget.ram.injEq, SubTarget.dev.injEq, SubTarget.shram.injEq,
    false_imp_iff, implies_true, true_and, and_true, forall_eq'] <;> omega

theorem subRegRead_stored (r : SubDevReg) (s : State) : (subRegRead r s).2.link.stored = s.link.stored := by
  cases r with
  | uData c => cases c <;> rfl
  | _ => rfl

theorem subRead_stored (a : Word) (s : State) : (subRead a s).2.link.stored = s.link.stored := by
  unfold subRead
  cases subTarget a with
  | dev i =>
    unfold subDevRead
    dsimp only
    split
    · exact subRegRead_stored _ s
    · rfl
  | _ => rfl

namespace LegalState

theorem pcmRead (h : LegalState s) (r : BitVec 6) : LegalState (pcmRead r s).2 := by
  unfold Machine.pcmRead
  split
  case h_3 => exact { h with }
  case h_5 => exact h.withPcm (Pcm.afterRegRead_fits _ _ _)
  all_goals exact h

theorem pcmWrite (h : LegalState s) (r : BitVec 6) (v : Byte) : LegalState (pcmWrite r v s) := by
  unfold Machine.pcmWrite
  split
  case h_5 => exact h.withPcm (Pcm.afterRegWrite_fits _ _ h.fits)
  all_goals exact { h with }

theorem windowRead (h : LegalState s) (i : Nat) : LegalState (windowRead i s).2 := by
  unfold Machine.windowRead
  split_ifs
  · exact { h with }
  all_goals exact h

theorem windowWrite (h : LegalState s) (i : Nat) (v : Byte) : LegalState (windowWrite i v s) := by
  unfold Machine.windowWrite
  split_ifs with hi
  · exact { h with shram := Memory.wf_write _ _ _ _ h.shram hi }
  all_goals exact { h with }

theorem timerLines (h : LegalState s) : LegalState (timerLines s) := { h with }

theorem devRead (h : LegalState s) (i : Nat) : LegalState (devRead i s).2 := by
  unfold Machine.devRead
  cases devReg i with
  | frt k r =>
    cases r with
    | tcsr => exact h.withFrt k (Frt.afterRead_statusOk (h.frt k))
    | _ => exact h
  | tmrTcsr => exact h.withTmr (Tmr.afterRead_statusOk h.tmr)
  | ext => exact { h with }
  | _ => exact h

theorem devWrite (h : LegalState s) (pa : BusAddr) (i : Nat) (v : Byte) : LegalState (devWrite pa i v s) := by
  unfold Machine.devWrite
  have hfrt (k : FrtId) (r : FrtReg) : LegalState { s with dev := s.dev.setFrt k ((s.dev.frt k).put r v) } :=
    h.withFrt k (Frt.put_statusOk r v (h.frt k))
  cases devReg i with
  | frt k r =>
    cases r with
    | tcr => exact (hfrt k .tcr).timerLines
    | tcsr => exact (hfrt k .tcsr).timerLines
    | _ => exact hfrt k _
  | tmrTcsr => exact (h.withTmr (Tmr.writeTcsr_statusOk v h.tmr)).timerLines
  | _ => exact { h with frt := fun k => (by cases k <;> rfl : s.dev.frt k = _) ▸ h.frt k }

theorem read8 (h : LegalState s) (pa : BusAddr) : LegalState (read8 pa s).2 := by
  unfold Machine.read8
  cases s.target pa with
  | pcm r => exact h.pcmRead r
  | shared i => exact h.windowRead i
  | dev i => exact h.devRead i
  | ext => exact { h with }
  | _ => exact h

theorem write8 (h : LegalState s) (pa : BusAddr) (v : Byte) : LegalState (write8 pa v s) := by
  obtain ⟨hram, hsram⟩ := target_inBounds s pa
  unfold Machine.write8
  cases ht : s.target pa with
  | ram i => exact { h with ram := Memory.wf_write _ _ _ _ h.ram (hram i ht) }
  | sram i => exact { h with sram := Memory.wf_write _ _ _ _ h.sram (hsram i ht) }
  | pcm r => exact h.pcmWrite r v
  | shared i => exact h.windowWrite i v
  | dev i => exact h.devWrite pa i v
  | ext => exact { h with }
  | _ => exact h

theorem subRead (h : LegalState s) (a : Word) : LegalState (subRead a s).2 := by
  obtain ⟨l, hl, hshram⟩ := subRead_shape s a
  have hstored := subRead_stored a s
  rw [hl] at hstored ⊢
  exact h.withLink hshram hstored

theorem subRegWrite (h : LegalState s) (r : SubDevReg) (v : Byte) : LegalState (subRegWrite r v s) := by
  cases r with
  | uData c | uMode c | uBaud c => cases c <;> exact { h with }
  | _ => exact { h with }

theorem subWrite (h : LegalState s) (a : Word) (v : Byte) : LegalState (subWrite a v s) := by
  obtain ⟨hram, hdev, hshram⟩ := subTarget_inBounds a
  unfold Machine.subWrite
  cases ht : subTarget a with
  | ram i => exact { h with subRam := Memory.wf_write _ _ _ _ h.subRam (hram i ht) }
  | acc i => exact { h with }
  | dev i =>
    unfold subDevWrite
    dsimp only
    split
    · exact h.subRegWrite _ v
    · exact { h with stored := Memory.wf_write _ _ _ _ h.stored (hdev i ht) }
  | shram i => exact { h with shram := Memory.wf_write _ _ _ _ h.shram (hshram i ht) }
  | rom i | unmapped => exact h

end LegalState

/-! ## The cores' own moves -/

/-- Only bits that exist (R25). -/
abbrev SrBits (v : Word) : Prop := v &&& ~~~0x870F#16 = 0#16

theorem SrBits.or {v w : Word} (hv : SrBits v) (hw : SrBits w) : SrBits (v ||| w) := by
  unfold SrBits at *
  rw [BitVec.and_or_distrib_right, hv, hw, BitVec.or_self]

theorem SrBits.and_left {v : Word} (hv : SrBits v) (w : Word) : SrBits (v &&& w) := by
  unfold SrBits at *
  rw [BitVec.and_assoc, BitVec.and_comm w, ← BitVec.and_assoc, hv, BitVec.zero_and]

theorem SrBits.and_right {w : Word} (v : Word) (hw : SrBits w) : SrBits (v &&& w) :=
  BitVec.and_comm v w ▸ hw.and_left v

theorem srBits_nzvc (f : Nzvc) : SrBits f.bits := by
  obtain ⟨n, z, v, c⟩ := f
  cases n <;> cases z <;> cases v <;> cases c <;> decide

theorem srBits_level : ∀ l : BitVec 3, SrBits (l.setWidth 16 <<< 8) := by decide

theorem crWrite_legal (h : LegalState s) (cr : CReg) (v : Word) : LegalState (s.crWrite cr v) := by
  cases cr with
  | sr => exact h.withSr (masked_fits v _)
  | ccr => exact h.withSr ((SrBits.and_left h.sr _).or (.and_right _ (by decide)))
  | br | ep | dp | tp => exact { h with }

/-- What the cores do themselves keeps a legal state legal. -/
theorem Moves.legal (h : Moves s t) (hs : LegalState s) : LegalState t := by
  induction h with
  | refl => exact hs
  | setNzvc _ ih => exact ih.withSr ((SrBits.and_left ih.sr _).or (srBits_nzvc _))
  | crWrite _ ih => exact crWrite_legal ih _ _
  | clearT _ ih => exact ih.withSr (SrBits.and_left ih.sr _)
  | setI _ ih => exact ih.withSr ((SrBits.and_left ih.sr _).or (srBits_level _))
  | read8 _ ih => exact ih.read8 _
  | write8 _ ih => exact ih.write8 _ _
  | subRead _ ih => exact ih.subRead _
  | subWrite _ ih => exact ih.subWrite _ _
  | setP _ hb ih => exact { ih with p := hb ih.p }
  | _ _ ih => exact { ih with }

/-! ## The host -/

theorem resetRegisters_legal (h : LegalState s) : LegalState (resetRegisters s) :=
  { h with
    stored := rfl
    sr := (by decide : SrBits Cpu.reset.sr)
    p := (by decide : (0x04#8).getLsbD 4 = false)
    frt := fun k => by cases k <;> exact (by decide : Frt.reset.statusOk = true)
    tmr := (by decide : Tmr.reset.statusOk = true)
    voices := List.length_replicate
    committed := BitVec.zero_and
    pending := BitVec.zero_and
    phase := .inl rfl }

theorem hostReset_legal (h : LegalState s) : LegalState (hostReset s) := by
  have hvector : LegalState (loadVector 0 (resetRegisters s)) := (Moves.loadVector .refl).legal (resetRegisters_legal h)
  unfold hostReset loadSubVector
  split
  · exact hvector
  · exact (Moves.setSpc (.subReadWord .refl)).legal hvector

theorem postUart_legal (b : Byte) (h : LegalState s) : LegalState (postUart b s) := by
  unfold postUart
  split
  · exact h
  · split
    · exact h
    · exact { h with }

theorem hostEvent_legal (e : HostEvent) (h : LegalState s) : LegalState (hostEvent e s) := by
  cases e with
  | reset => exact hostReset_legal h
  | postUart b => exact postUart_legal b h
  | _ => exact { h with }

theorem takeHost_legal (es : List HostEvent) (h : LegalState s) : LegalState (takeHost es s) := by
  induction es generalizing s with
  | nil => exact { h with }
  | cons e es ih =>
    by_cases he : e = .tick
    · subst he
      exact { h with }
    · rw [takeHost_cons e es s he]
      exact ih (hostEvent_legal e h)

/-! ## The passage of time -/

theorem pcmTick_legal (h : LegalState s) : LegalState (pcmTick s) := by
  obtain ⟨hvoices, hcommitted, hpending⟩ := Pcm.tick_fits h.fits
  exact { h with voices := hvoices, committed := hcommitted, pending := hpending }

theorem pcmTicks_legal (n : Nat) (h : LegalState s) : LegalState (pcmTicks n s) := by
  induction n generalizing s with
  | zero => exact h
  | succ n ih => exact ih (pcmTick_legal h)

theorem clock_frt (p : Params) (d : Dev) (k : FrtId) :
    (d.clock p).frt k = if clockTicks d.tclk (frtMask (d.frt k).tcr) then (d.frt k).tick p.frtCclra else d.frt k := by
  cases k <;> rfl

theorem timerClock_legal (h : LegalState s) : LegalState (timerClock s) := by
  refine LegalState.timerLines { h with frt := fun k => ?_, tmr := ?_ }
  · rw [clock_frt]
    split
    · exact Frt.tick_statusOk _ (h.frt k)
    · exact h.frt k
  · unfold Dev.clock
    dsimp only
    split
    · exact h.tmr
    · split
      · exact Tmr.tick_statusOk h.tmr
      · exact h.tmr

theorem timerClocks_legal (n : Nat) (h : LegalState s) : LegalState (timerClocks n s) := by
  induction n generalizing s with
  | zero => exact h
  | succ n ih => exact ih (timerClock_legal h)

/-- The sub core is behind on mk2 only (R590), so it has its turn there only. -/
theorem setPhase_legal (h : LegalState s) : LegalState s.setPhase := by
  refine { h with phase := ?_ }
  unfold State.setPhase State.subBehind
  cases hv : s.params.variant with
  | mk1 => exact .inl (by simp)
  | mk2 => exact .inr rfl

theorem afterInstruction_legal (h : LegalState s) : LegalState (afterInstruction s) :=
  setPhase_legal (timerClocks_legal _ (pcmTicks_legal _ (s := addCycles s) { h with }))

theorem afterSubInstruction_legal (h : LegalState s) : LegalState (afterSubInstruction s) :=
  setPhase_legal (s := { s with sub.cycles := s.sub.cycles + Config.subCpi }) { h with }

/-- The device block's own time reaches no array (R604, R606). -/
theorem subDevUpdate_legal (h : LegalState s) : LegalState (subDevUpdate s) := { h with }

/-! ## The step -/

theorem step_legal (h : step s = .next t) (hs : LegalState s) : LegalState t := by
  obtain ⟨-, u, hu, rfl⟩ | ⟨-, u, hu, rfl⟩ := step_next h
  · exact afterInstruction_legal (hu.legal (takeHost_legal _ hs))
  · exact afterSubInstruction_legal (hu.legal (subDevUpdate_legal hs))

/-- Settles O56, by `step_legal`. -/
theorem stepKeepsLegal : Obligations.StepKeepsLegal := fun _ _ hs h => legal_iff.2 (step_legal h (legal_iff.1 hs))

end Sys2Proof.Machine
end

section
/-! Proofs. Reading an operand (R22, R73, R75, R165). -/

namespace Sys2Proof.Machine

variable {s t : State}

theorem Word.toNat_ofBytes (hi lo : Byte) : (Word.ofBytes hi lo).toNat = hi.toNat * 256 + lo.toNat := by
  have h := Nat.shiftLeft_add_eq_or_of_lt lo.isLt hi.toNat
  rw [Nat.shiftLeft_eq] at h
  exact (BitVec.toNat_append hi lo).trans (by rw [Nat.shiftLeft_eq]; omega)

/-- Where a read of plain memory is decided, and its byte, `t` is as `s`. -/
structure SameBytes (s t : State) : Prop where
  params : t.params = s.params
  rame : t.dev.rame = s.dev.rame
  mem : t.mem = s.mem

/-- A read of ROM1, ROM2, RAM or SRAM has no side effect (R82). -/
theorem read8_plain {pa : BusAddr} (h : SameBytes s t) (hp : s.plainByte pa = true) :
    read8 pa t = (peek8 s pa, t) := by
  have htarget : t.target pa = s.target pa := by rw [State.target, State.target, h.params, h.rame]
  unfold State.plainByte at hp
  unfold peek8 read8
  rw [htarget, h.mem]
  cases htgt : s.target pa with
  | rom1 i | rom2 i | ram i | sram i => rfl
  | _ => simp [htgt] at hp

theorem slotAfterAccess_word (pa : BusAddr) (old : Option ExcKind) :
    slotAfterAccess .word (some pa) old = if pa.toNat % 2 = 1 then slotAfter .addressError old else old := by
  simp [slotAfterAccess]

/-- A word at an odd address requests AddressError (R75, R77). -/
theorem checkAligned_eq (pa : BusAddr) (s : State) :
    checkAligned pa s = { s with cpu.excSlot := slotAfterAccess .word (some pa) s.cpu.excSlot } := by
  have hodd : pa.getLsbD 0 = true ↔ pa.toNat % 2 = 1 := by
    rw [BitVec.getLsbD, Nat.testBit_zero, decide_eq_true_iff]
  rw [slotAfterAccess_word]
  unfold checkAligned
  split_ifs with h hn hn
  · rfl
  · exact absurd (hodd.1 h) hn
  · exact absurd (hodd.2 hn) h
  · rfl

/-- A read of plain memory at either width: the number its bytes hold, and at an odd word address a request (R73, R75). -/
theorem memRead_plain {sz : Size} {pa : BusAddr} (h : SameBytes s t) (hp : s.plainAt sz pa = true) :
    (memRead sz pa t).1.toNat = s.valueAt sz pa ∧
    (memRead sz pa t).2 = { t with cpu.excSlot := slotAfterAccess sz (some pa) t.cpu.excSlot } := by
  cases sz with
  | byte =>
    have hread := read8_plain h (by simpa [State.plainAt, accessBytes] using hp)
    exact ⟨by simp [memRead, hread, State.valueAt]; omega, by simp [memRead, hread, slotAfterAccess]⟩
  | word =>
    obtain ⟨hhigh, hlow⟩ : s.plainByte (evenBelow pa) = true ∧ s.plainByte (evenBelow pa + 1#20) = true := by
      simpa [State.plainAt, accessBytes] using hp
    have hc : SameBytes s (checkAligned pa t) := ⟨by simp [h.params], by simp [h.rame], by simp [h.mem]⟩
    simp only [memRead, memRead16, read8_plain hc hhigh, read8_plain hc hlow]
    exact ⟨Word.toNat_ofBytes _ _, checkAligned_eq pa t⟩

/-- `Reg_W(n)` as a number: the low bits (R22). -/
theorem regW_toNat (s : State) (sz : Size) (n : Reg) : (s.regW sz n).toNat = (s.reg n).toNat % 2 ^ sz.bits := by
  cases sz with
  | byte => exact (BitVec.toNat_and _ _).trans (Nat.and_two_pow_sub_one_eq_mod _ 8)
  | word => exact (Nat.mod_eq_of_lt (s.reg n).isLt).symm

/-- A register or an immediate leaves the state as the specifier found it. -/
theorem resolveEA_state_of_not_mem (ea : EA) (s : State) (h : s.operandAddr ea = none) : (resolveEA ea s).2 = s := by
  cases ea <;> first | rfl | exact nomatch h

/-- Settles O9: a register by `regW_toNat`, memory by `memRead_plain`. -/
theorem operandRead : Obligations.OperandRead := by
  intro ea s
  unfold State.fetched
  cases ho : (resolveEA ea s).1 with
  | reg n =>
    have hstate := resolveEA_state_of_not_mem ea s (by rw [State.operandAddr, ho])
    rw [hstate]
    exact ⟨regW_toNat s ea.size n, rfl⟩
  | imm v =>
    have hstate := resolveEA_state_of_not_mem ea s (by rw [State.operandAddr, ho])
    rw [hstate]
    rfl
  | mem pa =>
    intro hp
    obtain ⟨hvalue, hstate⟩ := memRead_plain (t := (resolveEA ea s).2) ⟨by simp, by simp, by simp⟩ hp
    rw [resolveEA_excSlot] at hstate
    exact ⟨hvalue, hstate⟩

end Sys2Proof.Machine
end

section
/-! Proofs. The interrupt check (R505, R507, R510, R512, R513, R514, R530, R670). -/

namespace Sys2Proof.Machine

variable {s : State}

/-! ## The table of the maskable sources -/

theorem levelHigh_toNat (b : Byte) : (levelHigh b).toNat = b.toNat / 16 % 8 := by
  simp [levelHigh, BitVec.extractLsb'_toNat, Nat.shiftRight_eq_div_pow]

theorem levelLow_toNat (b : Byte) : (levelLow b).toNat = b.toNat % 8 := by
  simp [levelLow, BitVec.extractLsb'_toNat]

theorem srI_toNat (s : State) : s.srI.toNat = s.cpu.sr.toNat / 256 % 8 := by
  simp [State.srI, BitVec.extractLsb'_toNat, Nat.shiftRight_eq_div_pow]

/-- The table of R530: source, vector, level, gate. -/
def sourceTable (d : Dev) : List (Source × Nat × Nat × Bool) :=
  let high (b : Byte) : Nat := b.toNat / 16 % 8
  let low (b : Byte) : Nat := b.toNat % 8
  [(.irq0, 32, high d.ipra, d.p1cr.getLsbD 5), (.irq1, 33, low d.ipra, d.p1cr.getLsbD 6),
   (.frt0Ocia, 35, high d.iprb, true), (.frt0Ocib, 36, high d.iprb, true), (.frt0Fovi, 37, high d.iprb, true),
   (.frt1Ocia, 39, low d.iprb, true), (.frt1Ocib, 40, low d.iprb, true), (.frt1Fovi, 41, low d.iprb, true),
   (.frt2Ocia, 43, high d.iprc, true), (.frt2Ocib, 44, high d.iprc, true), (.frt2Fovi, 45, high d.iprc, true),
   (.tmrCmia, 46, low d.iprc, true), (.tmrCmib, 47, low d.iprc, true), (.tmrOvi, 48, low d.iprc, true),
   (.sciEri, 49, high d.iprd, true), (.sciRxi, 50, high d.iprd, true), (.sciTxi, 51, high d.iprd, true),
   (.adi, 52, low d.iprd, true)]

theorem sourceTable_row (d : Dev) : ∀ e ∈ sourceTable d,
    e.1.vector = e.2.1 ∧ (d.level e.1).toNat = e.2.2.1 ∧ d.gate e.1 = e.2.2.2 := by
  simp [sourceTable, Source.vector, Dev.level, Dev.gate, levelHigh_toNat, levelLow_toNat]

/-- Acceptable: pending, the gate lets it through, the level is above the mask (R510, R512). -/
theorem acceptable_eq (s : State) (x : Source) :
    s.acceptable x = (s.pending x && s.dev.gate x && decide (s.cpu.sr.toNat / 256 % 8 < (s.dev.level x).toNat)) := by
  rw [State.acceptable, srI_toNat]

theorem mem_maskableSources (x : Source) : x ∈ maskableSources ↔ x ≠ .nmi := by
  cases x <;> decide

theorem maskableSources_ascending : maskableSources.Pairwise fun x y => x.vector < y.vector := by decide

/-! ## The lines and the slot -/

theorem lineSet_setLine (x : Source) (b : Bool) (s : State) : LineSet x b s (setLine x b s) :=
  ⟨rfl, pending_setLine_same x b s, fun y h => pending_setLine_other x y b s h⟩

/-- The four actions of the host that drive a line (R670). -/
theorem hostEvent_lineSet (b : Bool) (s : State) :
    ∀ e ∈ [(HostEvent.setNmi b, Source.nmi), (.setIrq1 b, .irq1), (.setSci .eri b, .sciEri), (.setSci .rxi b, .sciRxi),
      (.setSci .txi b, .sciTxi), (.setAdi b, .adi)], LineSet e.2 b s (hostEvent e.1 s) := by
  simp only [List.forall_mem_cons, List.not_mem_nil, false_imp_iff, implies_true, and_true]
  exact ⟨lineSet_setLine _ b s, lineSet_setLine _ b s, lineSet_setLine _ b s, lineSet_setLine _ b s,
    lineSet_setLine _ b s, lineSet_setLine _ b s⟩

/-- The slot keeps the higher priority of two requests (R505). -/
theorem slotAfter_cases (k : ExcKind) (old : Option ExcKind) : slotAfter k old =
    match old, k with
    | none, k => some k
    | some .addressError, _ => some .addressError
    | some .invalidInstruction, .addressError => some .addressError
    | some .invalidInstruction, _ => some .invalidInstruction
    | some .trace, k => some k := by
  cases k <;> rcases old with _ | _ | _ | _ <;> rfl

/-! ## Step by step -/

theorem lowestTrap_eq_some {t : BitVec 16} {n : Nat} (hn : n < 16) (ht : t.getLsbD n = true)
    (hlow : ∀ k, k < n → t.getLsbD k = false) : lowestTrap t = some n := by
  rw [lowestTrap, List.find?_range_eq_some]
  exact ⟨ht, List.mem_range.2 hn, fun k hk => by simp [hlow k hk]⟩

theorem lowestTrap_zero : lowestTrap 0#16 = none := by decide

theorem getLsbD_oneShift (n : Nat) {k : Nat} (hk : k < 16) : (1#16 <<< n).getLsbD k = decide (k = n) := by
  rw [BitVec.getLsbD_shiftLeft, BitVec.getLsbD_one, decide_eq_true hk, Bool.true_and, Bool.eq_iff_iff]
  simp only [Nat.zero_lt_succ, decide_true, Bool.true_and, Bool.and_eq_true, Bool.not_eq_true', decide_eq_false_iff_not,
    decide_eq_true_eq]
  omega

theorem clearTrap_getLsbD (s : State) (n k : Nat) (hk : k < 16) :
    (clearTrap n s).cpu.trapPending.getLsbD k = (s.cpu.trapPending.getLsbD k && decide (k ≠ n)) := by
  rw [clearTrap, BitVec.getLsbD_and, BitVec.getLsbD_not, getLsbD_oneShift n hk, decide_eq_true hk, Bool.true_and, decide_not]

/-- No source so far has as high a level as `b`, and `b` is next: what the fold holds before `b` is below it. -/
theorem foldl_betterSource_below (s : State) (b : Source) : ∀ (l : List Source) (best : Option Source),
    (∀ x ∈ best, (s.dev.level x).toNat < (s.dev.level b).toNat) →
    (∀ x ∈ l, s.acceptable x = true → (s.dev.level x).toNat < (s.dev.level b).toNat) →
    ∀ x ∈ l.foldl s.betterSource best, (s.dev.level x).toNat < (s.dev.level b).toNat
  | [], _, hbest, _ => hbest
  | y :: l, best, hbest, hl => by
    obtain ⟨hy, hl⟩ := List.forall_mem_cons.1 hl
    refine foldl_betterSource_below s b l _ (fun x hx => ?_) hl
    unfold State.betterSource at hx
    split at hx
    · split at hx
      · cases hx
        exact hy ‹_›
      · split at hx <;> cases hx
        · exact hy ‹_›
        · exact hbest _ rfl
    · exact hbest x hx

/-- Once the fold holds `b`, only a strictly higher level replaces it. -/
theorem foldl_betterSource_keeps (s : State) (b : Source) : ∀ l : List Source,
    (∀ x ∈ l, s.acceptable x = true → (s.dev.level x).toNat ≤ (s.dev.level b).toNat) →
    l.foldl s.betterSource (some b) = some b
  | [], _ => rfl
  | y :: l, hl => by
    obtain ⟨hy, hl⟩ := List.forall_mem_cons.1 hl
    have hkeep : s.betterSource (some b) y = some b := by
      unfold State.betterSource
      split
      · exact if_neg (Nat.not_lt.2 (hy ‹_›))
      · rfl
    rw [List.foldl_cons, hkeep]
    exact foldl_betterSource_keeps s b l hl

/-- The loop takes the highest level, and among equals the lowest vector (R513). -/
theorem bestSource_eq_some {b : Source} (hb : b ∈ maskableSources) (ha : s.acceptable b = true)
    (hbest : ∀ x ∈ maskableSources, s.acceptable x = true →
      (s.dev.level x).toNat < (s.dev.level b).toNat ∨ (s.dev.level x = s.dev.level b ∧ b.vector ≤ x.vector)) :
    s.bestSource = some b := by
  obtain ⟨before, after, hsplit⟩ := List.append_of_mem hb
  have hascending := maskableSources_ascending
  rw [hsplit, List.pairwise_append] at hascending
  obtain ⟨-, -, hbefore⟩ := hascending
  rw [hsplit] at hbest
  have hbelow : ∀ x ∈ before.foldl s.betterSource none, (s.dev.level x).toNat < (s.dev.level b).toNat := by
    refine foldl_betterSource_below s b before none nofun fun x hx hax => ?_
    have hvector := hbefore x hx b List.mem_cons_self
    rcases hbest x (List.mem_append_left _ hx) hax with h | ⟨-, h⟩
    · exact h
    · omega
  have htake : s.betterSource (before.foldl s.betterSource none) b = some b := by
    unfold State.betterSource
    rw [if_pos ha]
    split
    · rfl
    · exact if_pos (hbelow _ ‹_›)
  rw [State.bestSource, hsplit, List.foldl_append, List.foldl_cons, htake]
  refine foldl_betterSource_keeps s b after fun x hx hax => ?_
  rcases hbest x (List.mem_append_right _ (List.mem_cons_of_mem b hx)) hax with h | ⟨h, -⟩
  · exact h.le
  · exact (congrArg BitVec.toNat h).le

theorem bestSource_eq_none (h : ∀ x ∈ maskableSources, s.acceptable x = false) : s.bestSource = none := by
  have hkeep : ∀ l : List Source, (∀ x ∈ l, s.acceptable x = false) → l.foldl s.betterSource none = none := by
    intro l hl
    induction l with
    | nil => rfl
    | cons y l ih =>
      obtain ⟨hy, hl⟩ := List.forall_mem_cons.1 hl
      simpa [State.betterSource, hy] using ih hl
  exact hkeep _ h

/-- The check with no trap and nothing in the slot (R510 steps 3 and 4). -/
theorem interruptCheck_sources (ht : s.cpu.trapPending = 0#16) (hs : s.cpu.excSlot = none) :
    interruptCheck s =
      if s.pending .nmi then enter 11 (some 7#3) s
      else s.bestSource.elim s fun x => enter x.vector (some (s.dev.level x)) s := by
  unfold interruptCheck
  rw [ht, lowestTrap_zero, hs]
  cases s.bestSource <;> rfl

/-- Settles O38: the order of the check by `interruptCheck`'s branches, the choice among sources by `bestSource_eq_some`. -/
theorem interruptPriority : Obligations.InterruptPriority := by
  intro s
  refine ⟨⟨rfl, mem_maskableSources, fun e he => ?row⟩, fun b es => ?events, fun k => ⟨rfl, slotAfter_cases k⟩, rfl,
    fun n hn ht hlow => ?trap, fun ht => ⟨fun k hk => ?slot, fun hslot => ⟨fun hnmi => ?nmi, fun hnmi =>
      ⟨fun b hb ha hbest => ?best, fun hnone => ?none⟩⟩⟩⟩
  case row =>
    obtain ⟨hvector, hlevel, hgate⟩ := sourceTable_row s.dev e he
    exact ⟨hvector, hlevel, by rw [acceptable_eq, hlevel, hgate]⟩
  case events => exact ⟨hostEvent_lineSet b s, rfl, fun _ => rfl, rfl, rfl, fun e he => takeHost_cons e es s he⟩
  case trap =>
    refine ⟨clearTrap n s, ?_, rfl, fun k => clearTrap_getLsbD s n k⟩
    rw [interruptCheck, lowestTrap_eq_some hn ht hlow]
  case slot =>
    rw [interruptCheck, ht, lowestTrap_zero, hk]
    cases k <;> rfl
  case nmi => rw [interruptCheck_sources ht hslot, if_pos hnmi]
  case best =>
    rw [interruptCheck_sources ht hslot, hnmi, bestSource_eq_some hb ha hbest]
    rfl
  case none =>
    rw [interruptCheck_sources ht hslot, hnmi, bestSource_eq_none hnone]
    rfl

end Sys2Proof.Machine
end

section
/-! Proofs. The device registers on the bus: the status protocol of the timers, the interrupt lines, the register map (R38,
R84, R86, R289, R573, R574, R575, R579). -/

namespace Sys2Proof.Machine

variable {s : State} {pa : BusAddr} {i : Nat}

/-! ## The interrupt lines -/

/-- The sources of the timers, in the order of R579. -/
def timerSources : List Source :=
  [.frt0Ocia, .frt0Ocib, .frt0Fovi, .frt1Ocia, .frt1Ocib, .frt1Fovi, .frt2Ocia, .frt2Ocib, .frt2Fovi, .tmrCmia, .tmrCmib,
   .tmrOvi]

theorem lines_sources (d : Dev) : d.lines.map Prod.fst = timerSources := rfl

theorem timerSources_nodup : timerSources.Nodup := by decide

theorem foldl_pendingWith_other (x : Source) : ∀ (l : List (Source × Bool)) (t : BitVec 19), x ∉ l.map Prod.fst →
    (l.foldl (fun t e => pendingWith e.1 e.2 t) t).getLsbD x.index = t.getLsbD x.index
  | [], _, _ => rfl
  | e :: l, t, h => by
    rw [List.map_cons, List.mem_cons, not_or] at h
    rw [List.foldl_cons, foldl_pendingWith_other x l _ h.2, pendingWith_other _ _ _ _ h.1]

theorem foldl_pendingWith_mem (x : Source) (b : Bool) : ∀ (l : List (Source × Bool)) (t : BitVec 19),
    (l.map Prod.fst).Nodup → (x, b) ∈ l → (l.foldl (fun t e => pendingWith e.1 e.2 t) t).getLsbD x.index = b
  | e :: l, t, hl, h => by
    obtain ⟨hnotin, hl⟩ := List.nodup_cons.1 hl
    rw [List.foldl_cons]
    rcases List.mem_cons.1 h with rfl | h
    · rw [foldl_pendingWith_other _ l _ hnotin, pendingWith_same]
    · exact foldl_pendingWith_mem x b l _ hl h

/-- Each timer's line is its flag and its enable (R579). -/
theorem pending_timerLines {x : Source} {b : Bool} (h : (x, b) ∈ s.dev.lines) : (timerLines s).pending x = b :=
  foldl_pendingWith_mem x b _ _ (lines_sources s.dev ▸ timerSources_nodup) h

theorem pending_timerLines_other {x : Source} (h : x ∉ timerSources) : (timerLines s).pending x = s.pending x :=
  foldl_pendingWith_other x _ _ (lines_sources s.dev ▸ h)

/-- The lines of a free-running timer (R547, R579). -/
theorem mem_lines_frt (d : Dev) :
    ∀ e ∈ [(FrtId.k0, Source.frt0Ocia, Source.frt0Ocib, Source.frt0Fovi), (.k1, .frt1Ocia, .frt1Ocib, .frt1Fovi),
      (.k2, .frt2Ocia, .frt2Ocib, .frt2Fovi)],
      (e.2.1, (d.frt e.1).line 5) ∈ d.lines ∧ (e.2.2.1, (d.frt e.1).line 6) ∈ d.lines ∧
        (e.2.2.2, (d.frt e.1).line 4) ∈ d.lines := by
  simp [Dev.lines, Dev.frt]

/-- The lines of the 8-bit timer (R548, R579). -/
theorem mem_lines_tmr (d : Dev) :
    (.tmrCmia, d.tmr.line 6) ∈ d.lines ∧ (.tmrCmib, d.tmr.line 7) ∈ d.lines ∧ (.tmrOvi, d.tmr.line 5) ∈ d.lines := by
  simp [Dev.lines]

/-! ## The bits of a status register -/

theorem frtFlags_getLsbD : ∀ j < 8, frtFlags.getLsbD j = (decide (4 ≤ j) && decide (j < 7)) := by decide

theorem tmrFlags_getLsbD : ∀ j < 8, tmrFlags.getLsbD j = decide (5 ≤ j) := by decide

theorem storedBits_getLsbD : ∀ j < 8, (0x0F#8).getLsbD j = decide (j < 4) := by decide

section status
variable {flags : Byte} {j : Nat} (tcsr shadow v : Byte)

theorem getLsbD_clearedFlags (hj : j < 8) (hf : flags.getLsbD j = true) :
    (clearedFlags flags shadow v).getLsbD j = (shadow.getLsbD j && !v.getLsbD j) := by
  rw [clearedFlags, BitVec.getLsbD_and, BitVec.getLsbD_and, BitVec.getLsbD_not, hf, decide_eq_true hj, Bool.true_and,
    Bool.true_and]

/-- A flag is cleared exactly where a 0 is written to it and it is marked (R575). -/
theorem tcsrAfterWrite_flag (hj : j < 8) (hf : flags.getLsbD j = true) (hs : 4 ≤ j) :
    (tcsrAfterWrite flags tcsr shadow v).getLsbD j =
      (tcsr.getLsbD j && !(shadow.getLsbD j && !v.getLsbD j)) := by
  rw [tcsrAfterWrite, BitVec.getLsbD_or, BitVec.getLsbD_and, BitVec.getLsbD_and, BitVec.getLsbD_and, BitVec.getLsbD_not,
    getLsbD_clearedFlags _ _ hj hf, storedBits_getLsbD j hj, hf, decide_eq_true hj, decide_eq_false (Nat.not_lt.2 hs),
    Bool.and_true, Bool.true_and, Bool.and_false, Bool.or_false]

/-- Bits 3:0 are stored as written (R38). -/
theorem tcsrAfterWrite_low (hj : j < 4) (hf : flags.getLsbD j = false) :
    (tcsrAfterWrite flags tcsr shadow v).getLsbD j = v.getLsbD j := by
  rw [tcsrAfterWrite, BitVec.getLsbD_or, BitVec.getLsbD_and, BitVec.getLsbD_and, BitVec.getLsbD_and,
    storedBits_getLsbD j (by omega), hf, decide_eq_true hj, Bool.and_false, Bool.false_and, Bool.and_true, Bool.false_or]

/-- A write clears the shadow bit of exactly the flags it clears (R575). -/
theorem shadowAfterWrite_flag (hj : j < 8) (hf : flags.getLsbD j = true) :
    (shadow &&& ~~~(clearedFlags flags shadow v)).getLsbD j =
      (shadow.getLsbD j && !(shadow.getLsbD j && !v.getLsbD j)) := by
  rw [BitVec.getLsbD_and, BitVec.getLsbD_not, getLsbD_clearedFlags _ _ hj hf, decide_eq_true hj, Bool.true_and]

/-- A read marks every flag that is 1 (R574). -/
theorem shadowAfterRead_flag (hf : flags.getLsbD j = true) :
    (shadow ||| (tcsr &&& flags)).getLsbD j = (shadow.getLsbD j || tcsr.getLsbD j) := by
  rw [BitVec.getLsbD_or, BitVec.getLsbD_and, hf, Bool.and_true]

/-- Read, one bit cleared, written back: every flag keeps its value but that one (R289). -/
theorem tcsr_readModifyWrite (hj : j < 8) (hf : flags.getLsbD j = decide (4 ≤ j)) (c : Bool)
    (hv : v.getLsbD j = (tcsr.getLsbD j && !c)) :
    (tcsrAfterWrite flags tcsr (shadow ||| (tcsr &&& flags)) v).getLsbD j = (tcsr.getLsbD j && !c) := by
  by_cases hlow : j < 4
  · rw [tcsrAfterWrite_low _ _ _ hlow (hf.trans (decide_eq_false (by omega))), hv]
  · have hflag : flags.getLsbD j = true := hf.trans (decide_eq_true (by omega))
    rw [tcsrAfterWrite_flag _ _ _ hj hflag (by omega), shadowAfterRead_flag _ _ hflag, hv]
    cases tcsr.getLsbD j <;> cases c <;> simp

end status

/-! ## Accesses of the device registers -/

theorem read8_dev (h : s.target pa = .dev i) : read8 pa s = devRead i s := by
  rw [read8, h]

theorem write8_dev (v : Byte) (h : s.target pa = .dev i) : write8 pa v s = devWrite pa i v s := by
  rw [write8, h]

section frt
variable {k : FrtId} (ht : s.target pa = .dev i) (hr : devReg i = .frt k .tcsr)
include ht hr

theorem read8_frtTcsr :
    read8 pa s = ((s.dev.frt k).tcsr, { s with dev := s.dev.setFrt k (s.dev.frt k).afterRead }) := by
  rw [read8_dev ht, devRead, hr]

theorem write8_frtTcsr (v : Byte) :
    write8 pa v s = timerLines { s with dev := s.dev.setFrt k ((s.dev.frt k).writeTcsr v) } := by
  rw [write8_dev v ht, devWrite, hr]
  rfl

end frt

section tmr
variable (ht : s.target pa = .dev i) (hr : devReg i = .tmrTcsr)
include ht hr

theorem read8_tmrTcsr : read8 pa s = (s.dev.tmr.tcsr, { s with dev.tmr := s.dev.tmr.afterRead }) := by
  rw [read8_dev ht, devRead, hr]

theorem write8_tmrTcsr (v : Byte) :
    write8 pa v s = timerLines { s with dev.tmr := s.dev.tmr.writeTcsr v } := by
  rw [write8_dev v ht, devWrite, hr]

end tmr

/-! ## BCLR of a byte in memory -/

theorem changeable_of_operandAddr {ea : EA} (ha : s.operandAddr ea = some pa) : changeable ea = true := by
  cases ea with
  | imm8 v | imm16 v => cases ha
  | _ => rfl

theorem resolveEA_of_operandAddr {ea : EA} (ha : s.operandAddr ea = some pa) : (resolveEA ea s).1 = .mem pa := by
  cases ea <;> cases ha <;> rfl

/-- The byte with one bit cleared, as the byte store of the word result gives it. -/
theorem lo_clearBit (v : Byte) (n : Nat) : ∀ j, j < 8 →
    (Word.lo (v.setWidth 16 &&& ~~~(1#16 <<< n))).getLsbD j = (v.getLsbD j && !decide (j = n)) := by
  intro j hj
  have hbit : (1#16 <<< n).getLsbD j = decide (j = n) := getLsbD_oneShift n (by omega)
  rw [Word.lo, BitVec.getLsbD_extractLsb', Nat.zero_add, BitVec.getLsbD_and, BitVec.getLsbD_not, hbit,
    BitVec.getLsbD_setWidth, decide_eq_true hj, decide_eq_true (show j < 16 by omega), Bool.true_and, Bool.true_and,
    Bool.true_and]

/-- The byte is read, the bit cleared, the byte written back (R165, R283). -/
theorem exec_bclrI_byte {ea : EA} (b : BitVec 4) (hsize : ea.size = .byte) (ha : s.operandAddr ea = some pa) :
    let r := read8 pa (resolveEA ea s).2
    ∃ t w, exec (.bclrI b ea) s = .next t ∧ t.dev = (write8 pa w r.2).dev ∧
      ∀ j, j < 8 → w.getLsbD j = (r.1.getLsbD j && !decide (j = b.toNat % 8)) := by
  intro r
  refine ⟨_, Word.lo (r.1.setWidth 16 &&& ~~~(1#16 <<< (b.toNat % 8))), rfl, ?_, lo_clearBit _ _⟩
  rw [changeable_of_operandAddr ha, if_pos rfl, resolveEA_of_operandAddr ha, hsize]
  rfl

/-- BCLR at a free-running timer's TCSR clears that flag and no other (R289). -/
theorem exec_bclrI_frtTcsr {ea : EA} {k : FrtId} (ht : s.target pa = .dev i) (hr : devReg i = .frt k .tcsr)
    (b : BitVec 4) (hsize : ea.size = .byte) (ha : s.operandAddr ea = some pa) :
    ∃ t, exec (.bclrI b ea) s = .next t ∧ ∀ j, j < 7 →
      (t.dev.frt k).tcsr.getLsbD j = ((s.dev.frt k).tcsr.getLsbD j && !decide (j = b.toNat % 8)) := by
  obtain ⟨t, w, hexec, hdev, hw⟩ := exec_bclrI_byte b hsize ha
  have htarget : (resolveEA ea s).2.target pa = .dev i := by simpa [State.target] using ht
  have hafter : (read8 pa (resolveEA ea s).2).2.target pa = .dev i := by rw [read8_target, htarget]
  rw [write8_frtTcsr hafter hr] at hdev
  rw [read8_frtTcsr htarget hr, resolveEA_dev] at hdev hw
  refine ⟨t, hexec, fun j hj => ?_⟩
  have hfrt : t.dev.frt k = (s.dev.frt k).afterRead.writeTcsr w := by simp [hdev, timerLines]
  have hflags : frtFlags.getLsbD j = decide (4 ≤ j) := by simp [frtFlags_getLsbD j (by omega), hj]
  rw [hfrt]
  exact tcsr_readModifyWrite _ _ _ (by omega) hflags _ (hw j (by omega))

/-- BCLR at the 8-bit timer's TCSR: bit 4 does not exist (R38, R289). -/
theorem exec_bclrI_tmrTcsr {ea : EA} (ht : s.target pa = .dev i) (hr : devReg i = .tmrTcsr)
    (b : BitVec 4) (hsize : ea.size = .byte) (ha : s.operandAddr ea = some pa) :
    ∃ t, exec (.bclrI b ea) s = .next t ∧ ∀ j, j < 8 → j ≠ 4 →
      t.dev.tmr.tcsr.getLsbD j = (s.dev.tmr.tcsr.getLsbD j && !decide (j = b.toNat % 8)) := by
  obtain ⟨t, w, hexec, hdev, hw⟩ := exec_bclrI_byte b hsize ha
  have htarget : (resolveEA ea s).2.target pa = .dev i := by simpa [State.target] using ht
  have hafter : (read8 pa (resolveEA ea s).2).2.target pa = .dev i := by rw [read8_target, htarget]
  rw [write8_tmrTcsr hafter hr] at hdev
  rw [read8_tmrTcsr htarget hr, resolveEA_dev] at hdev hw
  refine ⟨t, hexec, fun j hj hne => ?_⟩
  have htmr : t.dev.tmr = s.dev.tmr.afterRead.writeTcsr w := by simp [hdev, timerLines]
  have hflags : tmrFlags.getLsbD j = decide (4 ≤ j) := by
    rw [tmrFlags_getLsbD j hj, decide_eq_decide]
    omega
  rw [htmr]
  exact tcsr_readModifyWrite _ _ _ hj hflags _ (hw j hj)

/-! ## The other registers -/

/-- The offset of a register in its timer's block (R38). -/
def FrtReg.offset : FrtReg → Nat
  | .tcr => 0
  | .tcsr => 1
  | .frcH => 2
  | .frcL => 3
  | .ocraH => 4
  | .ocraL => 5
  | .ocrbH => 6
  | .ocrbL => 7

/-- The blocks of the free-running timers (R38). -/
theorem devReg_frt : ∀ e ∈ [(FrtId.k0, 0x10), (.k1, 0x20), (.k2, 0x30)], ∀ r : FrtReg,
    devReg (e.2 + r.offset) = .frt e.1 r := by
  simp only [List.forall_mem_cons, List.not_mem_nil, false_imp_iff, implies_true, and_true]
  exact ⟨fun r => by cases r <;> rfl, fun r => by cases r <;> rfl, fun r => by cases r <;> rfl⟩

theorem frtReg_ext (k : FrtId) {n : Nat} (h : 8 ≤ n) : frtReg k n = .ext := by
  unfold frtReg
  split
  case h_9 => rfl
  all_goals omega

/-- Every other offset is external (R38, R84). -/
theorem devReg_ext (h : i < 0x10 ∨ (0x10 ≤ i ∧ i < 0x40 ∧ 8 ≤ i % 16) ∨ (0x40 ≤ i ∧ i < 0x50) ∨ (0x55 ≤ i ∧ i < 0x70) ∨
    (0x74 ≤ i ∧ i ≠ 0x79 ∧ i ≠ 0x7C)) : devReg i = .ext := by
  unfold devReg
  split
  case h_4 =>
    split
    case h_12 => rfl
    all_goals omega
  all_goals exact frtReg_ext _ (by omega)

theorem Word.toNat_hi (v : Word) : v.hi.toNat = v.toNat / 256 := by
  have h := v.isLt
  simp [Word.hi, BitVec.extractLsb'_toNat, Nat.shiftRight_eq_div_pow]
  omega

theorem Word.toNat_lo (v : Word) : v.lo.toNat = v.toNat % 256 := by
  simp [Word.lo, BitVec.extractLsb'_toNat]

/-- A 16-bit register by halves: a read gives the half, a write replaces it (R86, R573). -/
theorem readBack_half {isHigh : Bool} {old : Word} {new : Word → State} {v : Byte}
    (h : read8 pa s = (if isHigh = true then old.hi else old.lo, s) ∧
      write8 pa v s = new (if isHigh = true then Word.ofBytes v old.lo else Word.ofBytes old.hi v)) :
    (read8 pa s).2 = s ∧
    (read8 pa s).1.toNat = (if isHigh = true then old.toNat / 256 else old.toNat % 256) ∧
    ∃ w : Word, write8 pa v s = new w ∧
      w.toNat = if isHigh = true then v.toNat * 256 + old.toNat % 256 else old.toNat / 256 * 256 + v.toNat := by
  obtain ⟨hread, hwrite⟩ := h
  rw [hread, hwrite]
  refine ⟨rfl, ?_, _, rfl, ?_⟩ <;> cases isHigh <;> simp [Word.toNat_ofBytes, Word.toNat_hi, Word.toNat_lo]

/-- A register of a free-running timer other than TCSR: what a read gives and what a write leaves (R573). -/
theorem readBack_frt {k : FrtId} {r : FrtReg} (ht : s.target pa = .dev i) (hr : devReg i = .frt k r) (hne : r ≠ .tcsr)
    (v : Byte) :
    read8 pa s = ((s.dev.frt k).get r, s) ∧
    write8 pa v s =
      let t := { s with dev := s.dev.setFrt k ((s.dev.frt k).put r v) }
      if r = .tcr then timerLines t else t := by
  rw [read8_dev ht, write8_dev v ht, devRead, devWrite, hr]
  cases r with
  | tcsr => exact absurd rfl hne
  | _ => exact ⟨rfl, rfl⟩

/-- Settles O40: the protocol by the bits of `tcsrAfterWrite`, BCLR by `tcsr_readModifyWrite`, the other registers by
`readBack_frt` and `devReg_ext`, the lines by `pending_timerLines`. -/
theorem timerStatusProtocol : Obligations.TimerStatusProtocol := by
  refine ⟨fun s k pa i v ht hr => ⟨?frtRead, ?frtWrite, fun ea b => exec_bclrI_frtTcsr ht hr b⟩,
    fun s pa i v ht hr => ⟨?tmrRead, ?tmrWrite, fun ea b => exec_bclrI_tmrTcsr ht hr b⟩,
    fun s pa i v ht => ⟨fun e he => ?frtRegisters, ?registers⟩, fun s => ?lines, fun d f => ⟨rfl, rfl, rfl, rfl, rfl, rfl⟩⟩
  case frtRead =>
    rw [read8_frtTcsr ht hr]
    dsimp only
    rw [frt_setFrt_same]
    refine ⟨rfl, fun j h4 h7 => shadowAfterRead_flag _ _ ?_, rfl⟩
    simp [frtFlags_getLsbD j (by omega), h4, h7]
  case frtWrite =>
    rw [write8_frtTcsr ht hr v]
    have hfrt : (timerLines { s with dev := s.dev.setFrt k ((s.dev.frt k).writeTcsr v) }).dev.frt k =
        (s.dev.frt k).writeTcsr v := frt_setFrt_same _ _ _
    dsimp only
    rw [hfrt]
    refine ⟨fun j h4 h7 => ?_, fun j hj => tcsrAfterWrite_low _ _ _ hj ?_,
      tcsrAfterWrite_absent _ _ _ (by decide) (by decide), rfl, fun x hx => pending_timerLines hx,
      fun x hx => pending_timerLines_other hx⟩
    · have hflag : frtFlags.getLsbD j = true := by simp [frtFlags_getLsbD j (by omega), h4, h7]
      exact ⟨tcsrAfterWrite_flag _ _ _ (by omega) hflag h4, shadowAfterWrite_flag _ _ (by omega) hflag⟩
    · simp [frtFlags_getLsbD j (by omega), hj]
  case tmrRead =>
    rw [read8_tmrTcsr ht hr]
    refine ⟨rfl, rfl, fun j h5 h8 => shadowAfterRead_flag _ _ ?_⟩
    simp [tmrFlags_getLsbD j h8, h5]
  case tmrWrite =>
    rw [write8_tmrTcsr ht hr v]
    refine ⟨rfl, fun j h5 h8 => ?_, fun j hj => tcsrAfterWrite_low _ _ _ hj ?_,
      tcsrAfterWrite_absent _ _ _ (by decide) (by decide)⟩
    · have hflag : tmrFlags.getLsbD j = true := by simp [tmrFlags_getLsbD j h8, h5]
      exact ⟨tcsrAfterWrite_flag _ _ _ h8 hflag (by omega), shadowAfterWrite_flag _ _ h8 hflag⟩
    · rw [tmrFlags_getLsbD j (by omega), decide_eq_false (by omega)]
  case frtRegisters =>
    have hreg := devReg_frt e he
    have hbus (r : FrtReg) (hi : i = e.2 + r.offset) (hne : r ≠ .tcsr) := readBack_frt ht (hi ▸ hreg r) hne v
    exact ⟨fun hi => hbus .tcr hi nofun, fun hi => hi ▸ hreg .tcsr,
      fun hi => readBack_half (isHigh := true) (hbus .frcH hi nofun),
      fun hi => readBack_half (isHigh := false) (hbus .frcL hi nofun),
      fun hi => readBack_half (isHigh := true) (hbus .ocraH hi nofun),
      fun hi => readBack_half (isHigh := false) (hbus .ocraL hi nofun),
      fun hi => readBack_half (isHigh := true) (hbus .ocrbH hi nofun),
      fun hi => readBack_half (isHigh := false) (hbus .ocrbL hi nofun)⟩
  case registers =>
    rw [read8_dev ht, write8_dev v ht]
    refine ⟨?_, ?tcsr, ?_, ?_, ?_, ?_, ?_, ?_, ?_, ?_, ?_, fun h => ?ext⟩
    case ext =>
      have hext := devReg_ext h
      refine ⟨hext, ?_⟩
      rw [devRead, devWrite, hext]
      exact ⟨rfl, rfl⟩
    case tcsr => rintro rfl; rfl
    all_goals
      rintro rfl
      exact ⟨rfl, rfl⟩
  case lines =>
    obtain ⟨hcmia, hcmib, hovi⟩ := mem_lines_tmr s.dev
    refine ⟨rfl, fun e he => ?_, pending_timerLines hcmia, pending_timerLines hcmib, pending_timerLines hovi,
      fun x hx => pending_timerLines_other ?_⟩
    · obtain ⟨hocia, hocib, hfovi⟩ := mem_lines_frt s.dev e he
      exact ⟨pending_timerLines hocia, pending_timerLines hocib, pending_timerLines hfovi⟩
    · revert x
      decide

end Sys2Proof.Machine
end

section
/-! Proofs. The PCM engine: its arithmetic, its interrupt, its register window, one tick (R631 to R640). -/

namespace Sys2Proof.Machine

/-! ## Arithmetic -/

/-- `AddClip20` is the exact sum where it fits, else the nearest bound (R632). -/
theorem toInt_addClip20 (a b : BitVec 20) (c : Bool) :
    (addClip20 a b c).toInt =
      if a.toInt + b.toInt + (c.toNat : Int) < -524288 then -524288
      else if 524287 < a.toInt + b.toInt + (c.toNat : Int) then 524287
      else a.toInt + b.toInt + (c.toNat : Int) := by
  have hc : (if c = true then (1 : Int) else 0) = (c.toNat : Int) := by cases c <;> rfl
  unfold addClip20
  rw [hc]
  extract_lets x
  by_cases hlow : x < -524288
  · rw [if_neg (show ¬ 0x7FFFF < x by omega), if_pos hlow, if_pos hlow]
    decide
  · by_cases hhigh : 524287 < x
    · rw [if_pos hhigh, if_neg hlow, if_pos hhigh]
      decide
    · rw [if_neg hhigh, if_neg hlow, if_neg hlow, if_neg hhigh]
      exact BitVec.toInt_ofInt_eq_self (by decide) (by omega) (by omega)

theorem addClip20_comm (a b : BitVec 20) (c : Bool) : addClip20 a b c = addClip20 b a c := by
  unfold addClip20
  rw [Int.add_comm a.toInt]

theorem multi_eq (a : BitVec 20) (b : BitVec 8) :
    multi a b = if a.toInt * b.toInt < -16777216 then -16777216
      else if 16777215 < a.toInt * b.toInt then 16777215 else a.toInt * b.toInt := by
  unfold multi
  split_ifs <;> omega

/-! ## The voice interrupt -/

variable {s : State} {m : Pcm}

/-- A completion with the enable set, none in flight: the channel is latched (R638). -/
theorem voiceIrq_fires {n : Nat} (hn : n < 32) (he : (m.voice n).irqEn = true) (hp : m.voiceIrqPending = false) :
    (m.voiceIrq n true).voiceIrqPending = true ∧ (m.voiceIrq n true).voiceIrqChannel.toNat = n := by
  simp [Pcm.voiceIrq, he, hp, hn]

/-- Otherwise the completion is lost. -/
theorem voiceIrq_lost {n : Nat} {done : Bool} (h : (done && (m.voice n).irqEn && !m.voiceIrqPending) = false) :
    m.voiceIrq n done = m := by
  unfold Pcm.voiceIrq
  rw [h]
  simp

/-- One in flight stays, with its channel (R638). -/
theorem stepVoices_voiceIrq_kept (active : BitVec 32) (k n : Nat) (m : Pcm) (h : m.voiceIrqPending = true) :
    (Pcm.stepVoices active k n m).voiceIrqPending = true ∧
    (Pcm.stepVoices active k n m).voiceIrqChannel = m.voiceIrqChannel := by
  induction k generalizing n m with
  | zero => exact ⟨h, rfl⟩
  | succ k ih =>
    unfold Pcm.stepVoices
    split
    · have hstep : (m.stepVoice n).voiceIrqPending = true ∧ (m.stepVoice n).voiceIrqChannel = m.voiceIrqChannel := by
        simp [Pcm.stepVoice, Pcm.voiceIrq, h]
      exact (ih _ _ hstep.1).imp_right (·.trans hstep.2)
    · exact ih _ _ h

theorem tick_voiceIrq_kept (p : Params) (m : Pcm) (h : m.voiceIrqPending = true) :
    (m.tick p).voiceIrqPending = true ∧ (m.tick p).voiceIrqChannel = m.voiceIrqChannel :=
  stepVoices_voiceIrq_kept _ _ _ _ h

/-- A tick keeps IRQ0 the level of the interrupt in flight (R638). -/
theorem pcmTick_irq0 (h : s.pending .irq0 = s.pcm.voiceIrqPending) :
    (pcmTick s).pending .irq0 = (pcmTick s).pcm.voiceIrqPending := by
  cases hold : s.pcm.voiceIrqPending with
  | true =>
    have hnew := (tick_voiceIrq_kept s.params s.pcm hold).1
    simp only [State.pending] at h ⊢
    simp only [pcmTick, hold, hnew, Bool.not_true, Bool.and_false, Bool.false_eq_true, if_false]
    exact h.trans hold
  | false =>
    simp only [State.pending] at h ⊢
    cases hnew : (s.pcm.tick s.params).voiceIrqPending with
    | true => simp only [pcmTick, hold, hnew, Bool.not_false, Bool.and_true, if_true, pendingWith_same]
    | false =>
      simp only [pcmTick, hold, hnew, Bool.not_false, Bool.and_true, Bool.false_eq_true, if_false]
      exact h.trans hold

/-! ## The register window -/

theorem pcmStatus_toNat (m : Pcm) :
    m.status.toNat = (if m.voiceIrqPending = true then 128 else 0) + m.voiceIrqChannel.toNat := by
  have h : ∀ (b : Bool) (c : BitVec 5),
      ((bit 8 b <<< 7) ||| c.setWidth 8).toNat = (if b = true then 128 else 0) + c.toNat := by decide
  exact h _ _

theorem pcmRead_voiceRegister {q : BitVec 6} (h : q.toNat < 0x3C) :
    (pcmRead q s).2 = { s with pcm := s.pcm.afterRegRead s.params q } := by
  unfold pcmRead
  split
  case h_5 => rfl
  all_goals omega

theorem pcmWrite_voiceRegister {q : BitVec 6} (v : Byte) (h : q.toNat < 0x3C) :
    pcmWrite q v s = { s with pcm := s.pcm.afterRegWrite s.params q v } := by
  unfold pcmWrite
  split
  case h_5 => rfl
  all_goals omega

/-! ## The voice loop -/

/-- A voice completes with its enable set, so that it asks for the interrupt (R638). -/
def VoiceOut.completes (o : VoiceOut) : Bool := o.done && o.voice.irqEn

/-- `r` is the engine `m` after the voices of `l` are stepped, `out n` being what voice `n` gives: each is replaced, the two
sums take their shares, the first that completes is latched unless one is in flight, nothing else changes. -/
structure SteppedVoices (out : Nat → VoiceOut) (l : List Nat) (m r : Pcm) : Prop where
  frame : r = { m with voices := r.voices, accLeft := r.accLeft, accRight := r.accRight,
                       voiceIrqPending := r.voiceIrqPending, voiceIrqChannel := r.voiceIrqChannel }
  voice : ∀ j, r.voice j = if j ∈ l then (out j).voice else m.voice j
  left : r.accLeft = m.accLeft + (l.map fun j => (out j).left).sum
  right : r.accRight = m.accRight + (l.map fun j => (out j).right).sum
  pending : r.voiceIrqPending = (m.voiceIrqPending || (l.find? fun j => (out j).completes).isSome)
  channel : r.voiceIrqChannel =
    if m.voiceIrqPending = true then m.voiceIrqChannel
    else (l.find? fun j => (out j).completes).elim m.voiceIrqChannel (BitVec.ofNat 5)

theorem voice_set (m : Pcm) {n : Nat} (hn : n < m.voices.length) (v : PcmVoice) (j : Nat) :
    (m.voices.set n v).getD j PcmVoice.zero = if j = n then v else m.voice j := by
  by_cases hj : j = n
  · subst hj
    simp [hn]
  · simp [Pcm.voice, hj, Ne.symm hj]

theorem stepVoice_voice {n : Nat} (hn : n < m.voices.length) (j : Nat) :
    (m.stepVoice n).voice j = if j = n then (voiceStep m.env (m.voice n)).voice else m.voice j :=
  voice_set m hn _ j

/-- The interrupt of one step: the voice's own enable, after it is stepped, decides (R634 step 6, R638). -/
theorem stepVoice_voiceIrq {n : Nat} (hn : n < m.voices.length) :
    let fires := (voiceStep m.env (m.voice n)).completes && !m.voiceIrqPending
    (m.stepVoice n).voiceIrqPending = (m.voiceIrqPending || fires) ∧
    (m.stepVoice n).voiceIrqChannel = if fires = true then BitVec.ofNat 5 n else m.voiceIrqChannel := by
  have hen := congrArg PcmVoice.irqEn ((voice_set m hn (voiceStep m.env (m.voice n)).voice n).trans (if_pos rfl))
  unfold VoiceOut.completes
  rw [← hen]
  exact ⟨rfl, rfl⟩

/-- Stepping one voice after another: a voice is stepped once, from what it was before the loop. -/
theorem foldl_stepVoice (out : Nat → VoiceOut) (l : List Nat) (m : Pcm) (hl : l.Nodup)
    (hout : ∀ j ∈ l, j < m.voices.length ∧ voiceStep m.env (m.voice j) = out j) :
    SteppedVoices out l m (l.foldl Pcm.stepVoice m) := by
  induction l generalizing m with
  | nil => exact ⟨rfl, fun j => rfl, by simp, by simp, by simp, by simp⟩
  | cons n l ih =>
    obtain ⟨hnotin, hl⟩ := List.nodup_cons.1 hl
    obtain ⟨⟨hn, hstep⟩, hout⟩ := List.forall_mem_cons.1 hout
    have hother : ∀ j ∈ l, j < (m.stepVoice n).voices.length ∧
        voiceStep (m.stepVoice n).env ((m.stepVoice n).voice j) = out j := fun j hj => by
      have hne : j ≠ n := fun e => hnotin (e ▸ hj)
      rw [stepVoice_voice hn, if_neg hne]
      exact (hout j hj).imp_left (·.trans_eq List.length_set.symm)
    obtain ⟨hframe, hvoice, hleft, hright, hpending, hchannel⟩ := ih (m.stepVoice n) hl hother
    obtain ⟨hirq, hlatched⟩ := stepVoice_voiceIrq hn
    rw [hstep] at hirq hlatched
    rw [List.foldl_cons]
    refine ⟨hframe, fun j => ?_, ?_, ?_, ?_, ?_⟩
    · rw [hvoice, stepVoice_voice hn, hstep]
      by_cases hj : j = n
      · subst hj
        simp [hnotin]
      · simp [hj]
    · rw [hleft, List.map_cons, List.sum_cons, ← add_assoc, ← hstep]
      rfl
    · rw [hright, List.map_cons, List.sum_cons, ← add_assoc, ← hstep]
      rfl
    · rw [hpending, hirq, List.find?_cons]
      cases (out n).completes <;> cases m.voiceIrqPending <;> rfl
    · rw [hchannel, hirq, hlatched, List.find?_cons]
      cases (out n).completes <;> cases m.voiceIrqPending <;> rfl

/-- The loop of R631 steps the active voices in ascending order. -/
theorem stepVoices_eq_foldl (active : BitVec 32) (k n : Nat) (m : Pcm) :
    Pcm.stepVoices active k n m = ((List.range' n k).filter active.getLsbD).foldl Pcm.stepVoice m := by
  induction k generalizing n m with
  | zero => rfl
  | succ k ih =>
    unfold Pcm.stepVoices
    rw [List.range'_succ, List.filter_cons, ih]
    split <;> rfl

/-! ## One tick -/

/-- The voices a tick steps (R631). -/
def Pcm.active (p : Params) (m : Pcm) (n : Nat) : Bool :=
  decide (n ≤ m.activeVoiceCount.toNat) && decide (n < p.voiceSlots.count) && m.keyonCommitted.getLsbD n &&
    m.keyonPending.getLsbD n

theorem voiceSlots_count (v : VoiceSlots) : 0 < v.count ∧ v.count ≤ 32 := by cases v <;> decide

theorem active_eq (p : Params) (m : Pcm) (n : Nat) :
    m.active p n = (decide (n < m.voicesPerTick p) && (m.keyonCommitted &&& m.keyonPending).getLsbD n) := by
  have hcount := voiceSlots_count p.voiceSlots
  have hlooked : (decide (n ≤ m.activeVoiceCount.toNat) && decide (n < p.voiceSlots.count)) =
      decide (n < m.voicesPerTick p) := by
    rw [← Bool.decide_and, decide_eq_decide, Pcm.voicesPerTick]
    omega
  rw [Pcm.active, hlooked, BitVec.getLsbD_and, Bool.and_assoc]

theorem voicesPerTick_le (p : Params) (m : Pcm) : m.voicesPerTick p ≤ p.voiceSlots.count := by
  have hcount := voiceSlots_count p.voiceSlots
  unfold Pcm.voicesPerTick
  omega

/-- The voices the loop visits are the active ones among all slots. -/
theorem filter_active (p : Params) (m : Pcm) :
    (List.range' 0 (m.voicesPerTick p)).filter (m.keyonCommitted &&& m.keyonPending).getLsbD =
      (List.range 32).filter (m.active p) := by
  have hle : m.voicesPerTick p ≤ 32 := (voicesPerTick_le p m).trans (voiceSlots_count _).2
  have hsplit : List.range' 0 (m.voicesPerTick p) ++ List.range' (m.voicesPerTick p) (32 - m.voicesPerTick p) =
      List.range 32 := by
    have happend := List.range'_append_1 (s := 0) (m := m.voicesPerTick p) (n := 32 - m.voicesPerTick p)
    rwa [Nat.zero_add, Nat.add_sub_cancel' hle, ← @List.range_eq_range' 32] at happend
  have hrest : (List.range' (m.voicesPerTick p) (32 - m.voicesPerTick p)).filter (m.active p) = [] := by
    refine List.filter_eq_nil_iff.2 fun n hn => ?_
    have hn := (List.mem_range'_1.1 hn).1
    simp [active_eq, Nat.not_lt.2 hn]
  rw [← hsplit, List.filter_append, hrest, List.append_nil]
  refine List.filter_congr fun n hn => ?_
  have hn := (List.mem_range'_1.1 hn).2
  rw [active_eq, decide_eq_true (by omega), Bool.true_and]

/-- What stepping voice `n` gives in a tick. -/
def Pcm.stepped (m : Pcm) (n : Nat) : VoiceOut := voiceStep m.env (m.voice n)

/-- The voice loop of a tick (R631): the active voices are stepped, each from what it was before the tick. -/
theorem mixed_steppedVoices {p : Params} (h : m.voices.length = p.voiceSlots.count) :
    SteppedVoices m.stepped ((List.range 32).filter (m.active p)) { m with accLeft := 0, accRight := 0 } (m.mixed p) := by
  unfold Pcm.mixed
  rw [stepVoices_eq_foldl, filter_active]
  refine foldl_stepVoice _ _ _ (List.nodup_range.filter _) fun n hn => ⟨?_, rfl⟩
  have hactive := (List.mem_filter.1 hn).2
  rw [active_eq, Bool.and_eq_true, decide_eq_true_iff] at hactive
  exact (hactive.1.trans_le (voicesPerTick_le p m)).trans_eq h.symm

/-- `VoiceOff` of every committed voice that is no longer pending (R631, R637). -/
theorem offFrom_getD (c p : BitVec 32) (b n : Nat) (vs : List PcmVoice) (hn : n < vs.length) :
    (offFrom c p b vs).getD n PcmVoice.zero =
      if c.getLsbD (b + n) = true ∧ p.getLsbD (b + n) = false then voiceOff (vs.getD n PcmVoice.zero)
      else vs.getD n PcmVoice.zero := by
  induction vs generalizing b n with
  | nil => exact absurd hn (Nat.not_lt_zero n)
  | cons v vs ih =>
    cases n with
    | zero => simp [offFrom]
    | succ n =>
      have hshift : b + (n + 1) = b + 1 + n := by omega
      rw [hshift]
      exact ih (b + 1) n (Nat.lt_of_succ_lt_succ hn)

/-- A tick leaves `wave_bank`, the voice count, the pending mask and the wave ROM (R631). -/
theorem tick_frame {p : Params} (h : m.voices.length = p.voiceSlots.count) :
    m.tick p = { m with voices := (m.tick p).voices, keyonCommitted := m.keyonPending, envCounter := m.envCounter + 1#14,
                        accLeft := (m.tick p).accLeft, accRight := (m.tick p).accRight,
                        voiceIrqPending := (m.tick p).voiceIrqPending,
                        voiceIrqChannel := (m.tick p).voiceIrqChannel } := by
  have hframe := (mixed_steppedVoices h).frame
  unfold Pcm.tick
  extract_lets r
  rw [show r = m.mixed p from rfl, hframe]

theorem mixed_length_keyon (p : Params) (m : Pcm) :
    (m.mixed p).voices.length = m.voices.length ∧ (m.mixed p).keyonCommitted = m.keyonCommitted ∧
    (m.mixed p).keyonPending = m.keyonPending := stepVoices_length_keyon _ _ _ _

/-- A voice after a tick: stepped, off, or as it was (R631, R637). -/
theorem tick_voice {p : Params} (h : m.voices.length = p.voiceSlots.count) {n : Nat} (hn : n < p.voiceSlots.count) :
    (m.tick p).voice n =
      if m.active p n = true then (m.stepped n).voice
      else if m.keyonCommitted.getLsbD n = true ∧ m.keyonPending.getLsbD n = false then voiceOff (m.voice n)
      else m.voice n := by
  obtain ⟨hlength, hcommitted, hpending⟩ := mixed_length_keyon p m
  have hoff : (m.tick p).voice n = _ :=
    offFrom_getD (m.mixed p).keyonCommitted (m.mixed p).keyonPending 0 n (m.mixed p).voices (by omega)
  rw [Nat.zero_add, hcommitted, hpending, ← Pcm.voice] at hoff
  have hmem : n ∈ (List.range 32).filter (m.active p) ↔ m.active p n = true := by
    rw [List.mem_filter, List.mem_range, and_iff_right (hn.trans_le (voiceSlots_count _).2)]
  rw [hoff, (mixed_steppedVoices h).voice n]
  by_cases ha : m.active p n = true
  · have hkeyon : m.keyonPending.getLsbD n = true := (Bool.and_eq_true_iff.1 ha).2
    rw [if_neg (by simp [hkeyon]), if_pos (hmem.2 ha), if_pos ha]
  · rw [if_neg (mt hmem.1 ha), if_neg ha]
    rfl

/-- The interrupt a tick leaves: the first active voice that completes, unless one was in flight (R638). -/
theorem tick_voiceIrq {p : Params} (h : m.voices.length = p.voiceSlots.count) :
    let first := (List.range 32).find? fun n => m.active p n && (m.stepped n).done && (m.stepped n).voice.irqEn
    (m.tick p).voiceIrqPending = (m.voiceIrqPending || first.isSome) ∧
    (m.tick p).voiceIrqChannel.toNat =
      if m.voiceIrqPending = true then m.voiceIrqChannel.toNat else first.getD m.voiceIrqChannel.toNat := by
  intro first
  have hfirst : ((List.range 32).filter (m.active p)).find? (fun n => (m.stepped n).completes) = first := by
    rw [List.find?_filter]
    exact congrArg (List.find? · _) (funext fun n => by simp [VoiceOut.completes, Bool.and_assoc])
  have hmixed := mixed_steppedVoices h
  have hpending := hmixed.pending
  have hchannel := hmixed.channel
  rw [hfirst] at hpending hchannel
  refine ⟨hpending, (congrArg BitVec.toNat hchannel).trans ?_⟩
  dsimp only
  split_ifs
  · rfl
  · cases hf : first with
    | none => rfl
    | some n => exact Nat.mod_eq_of_lt (List.mem_range.1 (List.mem_of_find?_eq_some hf))

/-- The two sums of a tick: the shares of the active voices (R631). -/
theorem tick_sums {p : Params} (h : m.voices.length = p.voiceSlots.count) :
    (m.tick p).accLeft = (((List.range 32).filter (m.active p)).map fun n => (m.stepped n).left).sum ∧
    (m.tick p).accRight = (((List.range 32).filter (m.active p)).map fun n => (m.stepped n).right).sum :=
  ⟨(mixed_steppedVoices h).left.trans (zero_add _), (mixed_steppedVoices h).right.trans (zero_add _)⟩

/-- With no active voice the sample is silence. -/
theorem sample_silent {p : Params} (h : m.voices.length = p.voiceSlots.count)
    (ha : ∀ n, n < 32 → m.active p n = false) : (m.tick p).sample = .sample 0 0 := by
  have hnone : (List.range 32).filter (m.active p) = [] :=
    List.filter_eq_nil_iff.2 fun n hn => by simp [ha n (List.mem_range.1 hn)]
  obtain ⟨hleft, hright⟩ := tick_sums h
  rw [hnone] at hleft hright
  rw [Pcm.sample, hleft, hright]
  simp [clamp16]

/-- The engine after a tick of the machine: that of `Pcm.tick`, `pcm_cycles` one period on (R630, R631). -/
theorem pcmTick_pcm_frame (h : s.pcm.voices.length = s.params.voiceSlots.count) :
    (pcmTick s).pcm =
      { s.pcm with voices := (pcmTick s).pcm.voices, keyonCommitted := (pcmTick s).pcm.keyonCommitted,
                   envCounter := (pcmTick s).pcm.envCounter,
                   pcmCycles := s.pcm.pcmCycles + (s.pcm.activeVoiceCount.toNat + 1) * 25,
                   accLeft := (pcmTick s).pcm.accLeft, accRight := (pcmTick s).pcm.accRight,
                   voiceIrqPending := (pcmTick s).pcm.voiceIrqPending,
                   voiceIrqChannel := (pcmTick s).pcm.voiceIrqChannel } := by
  unfold pcmTick
  dsimp only
  rw [tick_frame h]
  rfl

/-- The latched channel, case by case (R638). -/
theorem latched_cases (inFlight : Bool) (first : Option Nat) (old : Nat) :
    (if inFlight = true then old else first.getD old) =
      match inFlight, first with
      | false, some n => n
      | false, none => old
      | true, _ => old := by
  cases inFlight <;> cases first <;> rfl

/-- Settles O42: the primitives by `toInt_addClip20` and `multi_eq`, the interrupt by `voiceIrq_fires` and `pcmTick_irq0`,
one tick by the `tick_` lemmas above. -/
theorem pcmPrimitivesAndInterrupt : Obligations.PcmPrimitivesAndInterrupt := by
  refine ⟨fun a b c => ⟨toInt_addClip20 a b c, addClip20_comm a b c⟩, multi_eq, fun n done m hn => ⟨rfl, ?fires, fun hf => ?lost⟩,
    fun s => ⟨pcmStatus_toNat _, lineSet_setLine _ _ _⟩, fun s q v hq => ⟨?read, ?write⟩,
    fun s => ⟨pcmTick_irq0, fun h => (tick_voiceIrq_kept s.params s.pcm h).symm⟩, fun s v => ?registers, fun s hs => ?tick⟩
  case fires =>
    rintro ⟨rfl, hen, hidle⟩
    exact voiceIrq_fires hn hen hidle
  case lost =>
    refine voiceIrq_lost (Bool.eq_false_iff.2 fun h => hf ?_)
    simpa [and_assoc] using h
  case read =>
    rw [pcmRead_voiceRegister hq]
    rfl
  case write =>
    rw [pcmWrite_voiceRegister v hq]
    rfl
  case registers =>
    refine ⟨⟨?_, rfl⟩, ⟨rfl, ?_⟩, ⟨Word.toNat_lo _, rfl⟩, ⟨rfl, ?_⟩, rfl, rfl, rfl⟩
    · exact BitVec.toNat_setWidth_of_le (by decide)
    · exact BitVec.extractLsb'_toNat _ _ _
    · exact BitVec.toNat_setWidth_of_le (by decide)
  case tick =>
    have hlength : s.pcm.voices.length = s.params.voiceSlots.count := by
      simp only [State.voicesOk, Bool.and_eq_true, beq_iff_eq] at hs
      exact hs.1.1
    obtain ⟨hleft, hright⟩ := tick_sums hlength
    obtain ⟨hpending, hchannel⟩ := tick_voiceIrq hlength
    have hframe := tick_frame hlength
    have henv : (pcmTick s).pcm.envCounter = s.pcm.envCounter + 1#14 := (congrArg Pcm.envCounter hframe :)
    refine ⟨rfl, pcmTick_pcm_frame hlength, ?_, ⟨hpending, ?_⟩, fun n hn => tick_voice hlength hn,
      (congrArg Pcm.keyonCommitted hframe :), (congrArg Pcm.keyonPending hframe :), hleft, hright,
      fun ha => congrArg (· :: s.model.hostOut) (sample_silent hlength ha)⟩
    · rw [henv]
      exact BitVec.toNat_add _ _
    · exact hchannel.trans (latched_cases _ _ _)

end Sys2Proof.Machine
end

section
/-! Proofs. What a specifier names and what it steps (R71, R160 to R169). -/

namespace Sys2Proof.Machine

/-- `PA(page, off)` as a number: bits 7:4 of the page do not reach the bus (R71). -/
theorem toNat_busAddr (page : Byte) (off : Word) : (busAddr page off).toNat = page.toNat % 16 * 0x10000 + off.toNat := by
  have happend := Nat.shiftLeft_add_eq_or_of_lt off.isLt (page.extractLsb' 0 4).toNat
  have hpage : (page.extractLsb' 0 4).toNat = page.toNat % 16 := BitVec.extractLsb'_toNat 0 4 page
  rw [Nat.shiftLeft_eq, hpage] at happend
  rw [busAddr, BitVec.toNat_append, Nat.shiftLeft_eq, hpage, ← happend]

/-- `PageOf` (R160). -/
theorem pageOf_eq (s : State) (n : Reg) :
    s.pageOf n =
      if n ∈ [Reg.r0, .r1, .r2, .r3] then s.cpu.dp else if n ∈ [Reg.r4, .r5] then s.cpu.ep else s.cpu.tp := by
  cases n <;> rfl

/-- The step is 2 for a word and through R[7], else 1 (R164, R166). -/
theorem toNat_autoStep (sz : Size) (n : Reg) : (autoStep sz n).toNat = if sz = .word ∨ n = .r7 then 2 else 1 := by
  cases sz with
  | byte => by_cases hn : n = .r7 <;> simp [autoStep, hn]
  | word => rfl

/-- A signed byte added to a word: the sum modulo 2^16 (R163). -/
theorem toNat_add_sext16 (a : Word) (d : Byte) : ((a + sext16 d).toNat : Int) = ((a.toNat : Int) + d.toInt) % 0x10000 := by
  have hsext : ((sext16 d).toNat : Int) = d.toInt % 0x10000 := by
    rw [sext16, BitVec.signExtend, BitVec.toNat_ofInt]
    exact Int.toNat_of_nonneg (Int.emod_nonneg _ (by decide))
  rw [BitVec.toNat_add]
  omega

/-- A specifier stepping its base changes that register and nothing else. -/
theorem setReg_sameButRegs_otherRegs (s : State) (n : Reg) (v : Word) :
    SameButRegs s (s.setReg n v) ∧ OtherRegs n s (s.setReg n v) :=
  ⟨rfl, fun m hm => reg_setReg_other s n m v hm⟩

/-- Pre-decrement: the base goes down by the step, and the operand is at the new base (R164). -/
theorem exec_eaPreDec (sz : Size) (n : Reg) (s : State) : ∃ t pa, exec (.eaPreDec sz n) s = .next t ∧ SameButRegs s t ∧
    OtherRegs n s t ∧
    (t.reg n).toNat = ((s.reg n).toNat + 0x10000 - (if sz = .word ∨ n = .r7 then 2 else 1)) % 0x10000 ∧
    s.operandAddr (.preDec sz n) = some pa ∧ pa.toNat = (s.pageOf n).toNat % 16 * 0x10000 + (t.reg n).toNat := by
  obtain ⟨hregs, hother⟩ := setReg_sameButRegs_otherRegs s n (s.reg n - autoStep sz n)
  refine ⟨s.setReg n (s.reg n - autoStep sz n), _, rfl, hregs, hother, ?_, rfl, ?_⟩
  · rw [reg_setReg_same, BitVec.toNat_sub, toNat_autoStep]
    split <;> omega
  · rw [toNat_busAddr, reg_setReg_same]

/-- Post-increment: the operand is at the base, which then goes up by the step (R166). -/
theorem exec_eaPostInc (sz : Size) (n : Reg) (s : State) : ∃ t pa, exec (.eaPostInc sz n) s = .next t ∧ SameButRegs s t ∧
    OtherRegs n s t ∧ (t.reg n).toNat = ((s.reg n).toNat + (if sz = .word ∨ n = .r7 then 2 else 1)) % 0x10000 ∧
    s.operandAddr (.postInc sz n) = some pa ∧ pa.toNat = (s.pageOf n).toNat % 16 * 0x10000 + (s.reg n).toNat := by
  obtain ⟨hregs, hother⟩ := setReg_sameButRegs_otherRegs s n (s.reg n + autoStep sz n)
  refine ⟨s.setReg n (s.reg n + autoStep sz n), _, rfl, hregs, hother, ?_, rfl, toNat_busAddr _ _⟩
  rw [reg_setReg_same, BitVec.toNat_add, toNat_autoStep]

/-- Settles O8: addresses by `toNat_busAddr`, the two stepping specifiers by `exec_eaPreDec` and `exec_eaPostInc`. -/
theorem specifierEffects : Obligations.SpecifierEffects := by
  refine fun sz n s => ⟨pageOf_eq s n, ⟨rfl, rfl⟩, ⟨rfl, _, rfl, toNat_busAddr _ _⟩, fun d => ⟨rfl, _, rfl, ?disp8⟩,
    fun d => ⟨rfl, _, rfl, ?disp16⟩, fun a => ⟨rfl, _, rfl, ?abs8⟩, fun a => ⟨rfl, _, rfl, toNat_busAddr _ _⟩,
    fun v => ⟨rfl, _, rfl, BitVec.toNat_setWidth_of_le (by decide)⟩, fun v => ⟨rfl, rfl⟩, exec_eaPreDec sz n s,
    exec_eaPostInc sz n s⟩
  case disp8 => rw [toNat_busAddr, Nat.cast_add, toNat_add_sext16]
  case disp16 => rw [toNat_busAddr, BitVec.toNat_add]
  case abs8 =>
    rw [toNat_busAddr, Word.toNat_ofBytes]
    exact Nat.zero_add _

end Sys2Proof.Machine
end

section
/-! Proofs. Stores to RAM and SRAM: they reach their own bytes alone, and what is written reads back (R73, R75 to R77). -/

namespace Sys2Proof.Machine

variable {s t : State} {pa : BusAddr}

/-! ## Addresses -/

/-- `pa & ~1` drops the lowest bit. -/
theorem evenBelow_eq (pa : BusAddr) : evenBelow pa = pa >>> 1 <<< 1 := by
  have hmask : ∀ i < 20, (0xFFFFE#20).getLsbD i = !decide (i < 1) := by decide
  refine BitVec.eq_of_getLsbD_eq fun i hi => ?_
  rw [evenBelow, BitVec.getLsbD_and, hmask i hi, BitVec.getLsbD_shiftLeft, BitVec.getLsbD_ushiftRight, decide_eq_true hi,
    Bool.true_and, Bool.and_comm]
  by_cases h0 : i < 1
  · simp [h0]
  · rw [Nat.add_sub_cancel' (Nat.not_lt.1 h0)]

theorem toNat_evenBelow (pa : BusAddr) : (evenBelow pa).toNat = pa.toNat / 2 * 2 := by
  have hlt := pa.isLt
  rw [evenBelow_eq, BitVec.toNat_shiftLeft, BitVec.toNat_ushiftRight, Nat.shiftLeft_eq, Nat.shiftRight_eq_div_pow]
  omega

/-- Where an address leads depends on the parameters and on RAME alone (R83). -/
theorem target_congr (hparams : t.params = s.params) (hdev : t.dev = s.dev) (pa : BusAddr) : t.target pa = s.target pa := by
  rw [State.target, State.target, hparams, hdev]

theorem plainRam_congr (h : t.target pa = s.target pa) : t.plainRam pa = s.plainRam pa := by
  rw [State.plainRam, h, State.plainRam]

theorem plainByte_congr (h : t.target pa = s.target pa) : t.plainByte pa = s.plainByte pa := by
  rw [State.plainByte, h, State.plainByte]

theorem plainRam_iff : s.plainRam pa = true ↔ (∃ i, s.target pa = .ram i) ∨ ∃ i, s.target pa = .sram i := by
  unfold State.plainRam
  cases s.target pa <;> simp

theorem plainByte_of_plainRam (h : s.plainRam pa = true) : s.plainByte pa = true := by
  obtain ⟨i, hi⟩ | ⟨i, hi⟩ := plainRam_iff.1 h <;> rw [State.plainByte, hi]

/-- A word in RAM: its two bytes are of RAM or SRAM, and not one byte shown twice. -/
theorem ramAt_word_iff : s.ramAt .word pa = true ↔
    s.plainRam (evenBelow pa) = true ∧ s.plainRam (evenBelow pa + 1#20) = true ∧
      s.target (evenBelow pa + 1#20) ≠ s.target (evenBelow pa) := by
  simp [State.ramAt, State.distinctRam, accessBytes, and_assoc, ne_comm]

theorem ramAt_byte_iff : s.ramAt .byte pa = true ↔ s.plainRam pa = true := by
  simp [State.ramAt, State.distinctRam, accessBytes]

/-- A read of plain memory gives the byte of the array it names. -/
theorem arrayByte_target (h : s.plainByte pa = true) : s.arrayByte (s.target pa) = some (peek8 s pa) := by
  unfold State.plainByte at h
  unfold peek8 read8
  cases htarget : s.target pa with
  | rom1 i | rom2 i | ram i | sram i => rfl
  | _ => simp [htarget] at h

/-! ## A byte written -/

theorem write8_ram {i : Nat} (b : Byte) (h : s.target pa = .ram i) :
    write8 pa b s = { s with mem.ram := s.mem.ram.write i b } := by
  rw [write8, h]

theorem write8_sram {i : Nat} (b : Byte) (h : s.target pa = .sram i) :
    write8 pa b s = { s with mem.sram := s.mem.sram.write i b } := by
  rw [write8, h]

/-- A byte stored to RAM or SRAM does not move the map. -/
theorem write8_dev_of_plainRam (b : Byte) (h : s.plainRam pa = true) : (write8 pa b s).dev = s.dev := by
  obtain ⟨i, hi⟩ | ⟨i, hi⟩ := plainRam_iff.1 h
  · rw [write8_ram b hi]
  · rw [write8_sram b hi]

theorem write8_target_of_plainRam (b : Byte) (h : s.plainRam pa = true) (pb : BusAddr) :
    (write8 pa b s).target pb = s.target pb :=
  target_congr (write8_params s pa b) (write8_dev_of_plainRam b h) pb

/-- What the canonical form of the arrays asks of RAM and SRAM, and that it asks nothing else of them (R83). -/
theorem arraysOk_ram (ha : s.arraysOk = true) : s.mem.ram.wf 0x400 = true ∧ s.mem.sram.wf 0x8000 = true ∧
    ∀ ram sram, Memory.wf 0x400 ram = true → Memory.wf 0x8000 sram = true →
      State.arraysOk { s with mem.ram := ram, mem.sram := sram } = true := by
  simp only [State.arraysOk, Bool.and_eq_true] at ha ⊢
  obtain ⟨⟨⟨⟨⟨⟨hroms, hram⟩, hsram⟩, hsubRom⟩, hsubRam⟩, hshram⟩, hstored⟩ := ha
  exact ⟨hram, hsram, fun _ _ h h' => ⟨⟨⟨⟨⟨⟨hroms, h⟩, h'⟩, hsubRom⟩, hsubRam⟩, hshram⟩, hstored⟩⟩

/-- A byte stored to RAM or SRAM reads back. -/
theorem peek8_write8_same (b : Byte) (ha : s.arraysOk = true) (h : s.plainRam pa = true) :
    peek8 (write8 pa b s) pa = b := by
  have htarget := write8_target_of_plainRam b h pa
  obtain ⟨hram, hsram, -⟩ := arraysOk_ram ha
  obtain ⟨i, hi⟩ | ⟨i, hi⟩ := plainRam_iff.1 h
  · rw [peek8, read8, htarget, hi, write8_ram b hi]
    exact Memory.read_write_same _ b _ _ _ hram
  · rw [peek8, read8, htarget, hi, write8_sram b hi]
    exact Memory.read_write_same _ b _ _ _ hsram

/-- Another byte of memory reads as before. -/
theorem peek8_write8_other {pb : BusAddr} (b : Byte) (h : s.plainRam pa = true) (hb : s.plainByte pb = true)
    (hne : s.target pb ≠ s.target pa) : peek8 (write8 pa b s) pb = peek8 s pb := by
  have htarget := write8_target_of_plainRam b h pb
  have hafter := arrayByte_target ((plainByte_congr htarget).trans hb)
  rw [htarget, write8_arrayByte s pa b _ hne, arrayByte_target hb] at hafter
  exact (Option.some.inj hafter).symm

theorem write8_arraysOk (b : Byte) (ha : s.arraysOk = true) (h : s.plainRam pa = true) :
    (write8 pa b s).arraysOk = true := by
  obtain ⟨hram, hsram, hwith⟩ := arraysOk_ram ha
  obtain ⟨hramBound, hsramBound⟩ := target_inBounds s pa
  obtain ⟨i, hi⟩ | ⟨i, hi⟩ := plainRam_iff.1 h
  · rw [write8_ram b hi]
    exact hwith _ _ (Memory.wf_write _ _ i b hram (hramBound i hi)) hsram
  · rw [write8_sram b hi]
    exact hwith _ _ hram (Memory.wf_write _ _ i b hsram (hsramBound i hi))

/-! ## An operand written -/

theorem checkAligned_arraysOk (pa : BusAddr) (s : State) : (checkAligned pa s).arraysOk = s.arraysOk := by
  rw [checkAligned_eq]
  rfl

/-- The second byte of a word store to RAM goes where it would have gone before the first (R77). -/
theorem memWrite16_firstByte (v : Word) (h : s.ramAt .word pa = true) :
    (checkAligned pa s).plainRam (evenBelow pa) = true ∧
      ∀ pb, (write8 (evenBelow pa) v.hi (checkAligned pa s)).target pb = s.target pb := by
  have hfirst := (plainRam_congr (checkAligned_target s pa _)).trans (ramAt_word_iff.1 h).1
  exact ⟨hfirst, fun pb => (write8_target_of_plainRam _ hfirst pb).trans (checkAligned_target s pa pb)⟩

theorem memWrite_dev {sz : Size} (v : Word) (h : s.ramAt sz pa = true) : (memWrite sz pa v s).dev = s.dev := by
  cases sz with
  | byte => exact write8_dev_of_plainRam _ (ramAt_byte_iff.1 h)
  | word =>
    obtain ⟨hfirst, htarget⟩ := memWrite16_firstByte v h
    have hsecond := (plainRam_congr (htarget _)).trans (ramAt_word_iff.1 h).2.1
    rw [memWrite, memWrite16, write8_dev_of_plainRam _ hsecond, write8_dev_of_plainRam _ hfirst, checkAligned_eq]

theorem memWrite_arraysOk {sz : Size} (v : Word) (ha : s.arraysOk = true) (h : s.ramAt sz pa = true) :
    (memWrite sz pa v s).arraysOk = true := by
  cases sz with
  | byte => exact write8_arraysOk _ ha (ramAt_byte_iff.1 h)
  | word =>
    obtain ⟨hfirst, htarget⟩ := memWrite16_firstByte v h
    have hsecond := (plainRam_congr (htarget _)).trans (ramAt_word_iff.1 h).2.1
    exact write8_arraysOk _ (write8_arraysOk _ ((checkAligned_arraysOk pa s).trans ha) hfirst) hsecond

/-- An operand stored to RAM or SRAM reads back (R73). -/
theorem valueAt_memWrite {sz : Size} (v : Word) (ha : s.arraysOk = true) (h : s.ramAt sz pa = true) :
    (memWrite sz pa v s).valueAt sz pa = v.toNat % 2 ^ sz.bits := by
  cases sz with
  | byte =>
    exact (congrArg BitVec.toNat (peek8_write8_same _ ha (ramAt_byte_iff.1 h))).trans (Word.toNat_lo v)
  | word =>
    obtain ⟨hplain, hplain', hne⟩ := ramAt_word_iff.1 h
    obtain ⟨hfirst, htarget⟩ := memWrite16_firstByte v h
    have hok := (checkAligned_arraysOk pa s).trans ha
    have hsecond := (plainRam_congr (htarget _)).trans hplain'
    have hlow := peek8_write8_same v.lo (write8_arraysOk v.hi hok hfirst) hsecond
    have hhigh := (peek8_write8_other v.lo hsecond
      ((plainByte_congr (htarget _)).trans (plainByte_of_plainRam hplain))
      (by rw [htarget, htarget]; exact hne.symm)).trans (peek8_write8_same v.hi hok hfirst)
    simp only [memWrite, memWrite16, State.valueAt, hlow, hhigh, Word.toNat_hi, Word.toNat_lo]
    exact (Nat.div_add_mod' _ _).trans (Nat.mod_eq_of_lt v.isLt).symm

/-- A store to RAM or SRAM leaves every byte but its own (R76, R77). -/
theorem memWrite_arraysKeptBut {sz : Size} (v : Word) (h : s.ramAt sz pa = true) :
    ArraysKeptBut sz pa s (memWrite sz pa v s) := by
  have hstored := memWrite_arraysKeptButStored s sz pa v
  cases sz with
  | byte => exact hstored
  | word =>
    intro g hg hg'
    refine hstored g hg ?_
    rwa [write8_target_of_plainRam _ (ramAt_word_iff.1 h).1]

end Sys2Proof.Machine
end

section
/-! Proofs. The default `MEMMAP` is the table of R83. -/

namespace Sys2Proof.Machine

variable {s : State} {pa : BusAddr}

/-! ## The table, row by row -/

/-- Where the bus address `n` leads under the rows `ws`, the first that applies (R83). -/
def mapTarget (p : Params) (rame : Bool) (n : Nat) (ws : List MapWindow) : Target :=
  match ws.find? (windowCovers p.variant rame n) with
  | some w => unitTarget w.unit ((n - w.base) % unitSize p w.unit)
  | none => .unmapped

theorem target_eq_mapTarget (s : State) (pa : BusAddr) :
    s.target pa = mapTarget s.params (s.dev.ramcr.getLsbD 7) pa.toNat s.params.memMap := rfl

section rows
variable {p : Params} {rame : Bool} {n : Nat} {w : MapWindow} {ws : List MapWindow} {c : Prop} [Decidable c] {x y : Target}

/-- One row: it applies where `c` holds, then leads to `x`, and the rows after it lead to `y` elsewhere. -/
theorem mapTarget_cons (hc : windowCovers p.variant rame n w = true ↔ c)
    (hx : c → unitTarget w.unit ((n - w.base) % unitSize p w.unit) = x) (hy : ¬ c → mapTarget p rame n ws = y) :
    mapTarget p rame n (w :: ws) = if c then x else y := by
  unfold mapTarget
  split_ifs with h
  · rw [List.find?_cons_of_pos (hc.2 h)]
    exact hx h
  · rw [List.find?_cons_of_neg (mt hc.1 h)]
    exact hy h

theorem windowCovers_iff (v : Variant) : windowCovers v rame n w = true ↔
    (∀ x, w.only = some x → v = x) ∧ w.first ≤ n ∧ n < w.limit ∧ (w.whenRame = false ∨ rame = true) := by
  unfold windowCovers windowExists
  cases w.only with
  | none => simp [and_assoc]
  | some x => simp [and_assoc, eq_comm (a := x)]

end rows

/-- The default map leads where the table of R83 says. Row by row: ROM1, the PCM window of mk2 and of mk1, the shared window,
the device registers, RAM, SRAM, external, ROM2, external. SRAM and the last row need the rows before them and the width of
the bus. -/
theorem mapTarget_defaultMemMap (p : Params) (rame : Bool) {n : Nat} (hn : n < 0x100000) :
    mapTarget p rame n defaultMemMap = r83Target p.variant rame p.rom2Len n := by
  unfold defaultMemMap r83Target
  refine mapTarget_cons (by simp [windowCovers_iff]) (fun h => congrArg Target.rom1 (Nat.mod_eq_of_lt h)) fun _ => ?_
  refine mapTarget_cons (by simp [windowCovers_iff]) (fun _ => rfl) fun _ => ?_
  refine mapTarget_cons (by simp [windowCovers_iff]) (fun _ => rfl) fun _ => ?_
  refine mapTarget_cons (by simp [windowCovers_iff]) (fun _ => rfl) fun _ => ?_
  refine mapTarget_cons (by simp [windowCovers_iff]) (fun _ => rfl) fun _ => ?_
  refine mapTarget_cons (by simp [windowCovers_iff]) (fun h => congrArg Target.ram
    (Nat.mod_eq_of_lt (show n - 0xFB80 < 0x400 by omega))) fun _ => ?_
  refine mapTarget_cons (by simp [windowCovers_iff]; omega) (fun _ => rfl) fun _ => ?_
  refine mapTarget_cons (by simp [windowCovers_iff]) (fun _ => rfl) fun _ => ?_
  refine mapTarget_cons (by simp [windowCovers_iff])
    (fun h => congrArg (fun i => Target.rom2 (i % p.rom2Len)) (Nat.mod_eq_of_lt h.2).symm) fun _ => ?_
  refine mapTarget_cons (by simp [windowCovers_iff]; omega) (fun _ => rfl) fun _ => rfl

theorem target_defaultMemMap (hmap : s.params.memMap = defaultMemMap) (pa : BusAddr) :
    s.target pa = r83Target s.params.variant (s.dev.ramcr.getLsbD 7) s.params.rom2Len pa.toNat := by
  rw [target_eq_mapTarget, hmap]
  exact mapTarget_defaultMemMap _ _ pa.isLt

/-! ## Each byte of RAM and SRAM stands at one address -/

theorem r83Target_ram {v : Variant} {rame : Bool} {len n i : Nat} (h : r83Target v rame len n = .ram i) :
    n = 0xFB80 + i := by
  unfold r83Target at h
  split_ifs at h
  have hi := Target.ram.inj h
  omega

theorem r83Target_sram {v : Variant} {rame : Bool} {len n i : Nat} (h : r83Target v rame len n = .sram i) :
    n = 0x8000 + i := by
  unfold r83Target at h
  split_ifs at h
  have hi := Target.sram.inj h
  omega

/-- Under the default map no byte of RAM or SRAM is shown twice (R83). -/
theorem plainRam_target_inj (hmap : s.params.memMap = defaultMemMap) {pb : BusAddr} (h : s.plainRam pa = true)
    (hb : s.target pb = s.target pa) : pb = pa := by
  refine BitVec.eq_of_toNat_eq ?_
  have ha := target_defaultMemMap hmap pa
  rw [target_defaultMemMap hmap pb] at hb
  obtain ⟨i, hi⟩ | ⟨i, hi⟩ := plainRam_iff.1 h
  · rw [r83Target_ram (hb.trans hi), r83Target_ram (ha.symm.trans hi)]
  · rw [r83Target_sram (hb.trans hi), r83Target_sram (ha.symm.trans hi)]

end Sys2Proof.Machine
end

section
/-! Proofs. The main bus, target by target (R72, R77, R82, R84, R620). -/

namespace Sys2Proof.Machine

variable {s : State} {pa : BusAddr} {i : Nat}

/-- A word stored to RAM: it reads back, stands high byte first, and an odd address requests AddressError (R73, R75, R77). -/
theorem memWrite16_ram (v : Word) (ha : s.arraysOk = true) (h : s.ramAt .word pa = true) :
    (memRead16 pa (memWrite16 pa v s)).1 = v ∧
    (peek8 (memWrite16 pa v s) (evenBelow pa)).toNat = v.toNat / 256 ∧
    (peek8 (memWrite16 pa v s) (evenBelow pa + 1#20)).toNat = v.toNat % 256 ∧
    (memWrite16 pa v s).cpu.excSlot =
      (if pa.toNat % 2 = 1 then slotAfter .addressError s.cpu.excSlot else s.cpu.excSlot) := by
  obtain ⟨hfirst, hsecond, -⟩ := ramAt_word_iff.1 h
  have hvalue : (memWrite16 pa v s).valueAt .word pa = v.toNat :=
    (valueAt_memWrite v ha h).trans (Nat.mod_eq_of_lt v.isLt)
  have htarget : ∀ pb, (memWrite16 pa v s).target pb = s.target pb :=
    target_congr (memWrite16_params s pa v) (memWrite_dev v h)
  have hplain : (memWrite16 pa v s).plainAt .word pa = true := by
    simp [State.plainAt, accessBytes, plainByte_congr (htarget _), plainByte_of_plainRam, hfirst, hsecond]
  have hread := (memRead_plain ⟨rfl, rfl, rfl⟩ hplain).1
  have hbytes : (peek8 (memWrite16 pa v s) (evenBelow pa)).toNat * 256 +
      (peek8 (memWrite16 pa v s) (evenBelow pa + 1#20)).toNat = v.toNat := hvalue
  have hlow := (peek8 (memWrite16 pa v s) (evenBelow pa + 1#20)).isLt
  refine ⟨BitVec.eq_of_toNat_eq (hread.trans hvalue), by omega, by omega, ?_⟩
  rw [← slotAfterAccess_word, memWrite16, write8_excSlot, write8_excSlot, checkAligned_eq]

/-- A read of a device register has a side effect only at a timer's TCSR and outside the block (R82). -/
theorem devRead_state (hext : devReg i ≠ .ext) (htmr : devReg i ≠ .tmrTcsr) (hfrt : ∀ k, devReg i ≠ .frt k .tcsr) :
    (devRead i s).2 = s := by
  unfold devRead
  cases hr : devReg i with
  | frt k r =>
    cases r with
    | tcsr => exact absurd hr (hfrt k)
    | _ => rfl
  | tmrTcsr => exact absurd hr htmr
  | ext => exact absurd hr hext
  | _ => rfl

/-! ## The shared window -/

/-- `ACC[i]` holds the flags 8i to 8i + 7 (R43). -/
theorem accByte_getLsbD (l : Link) (i : Nat) {k : Nat} (hk : k < 8) : (l.accByte i).getLsbD k = l.flag (8 * i + k) := by
  rw [Link.accByte, Link.flag, BitVec.getLsbD_extractLsb', decide_eq_true hk, Bool.true_and]

/-- Source `j` of the sub core raised: its bit is set, the others stay (R592). -/
theorem setPending_true_getLsbD (l : Link) (j : Nat) {k : Nat} (hk : k < 8) :
    (l.setPending j true).intPending.getLsbD k = (l.intPending.getLsbD k || decide (k = j)) := by
  have hbit : (1#8 <<< j).getLsbD k = decide (k = j) := by
    rw [← BitVec.twoPow_eq, BitVec.getLsbD_twoPow, ← Bool.decide_and, decide_eq_decide]
    omega
  rw [← hbit, ← BitVec.getLsbD_or, Link.setPending, if_pos rfl]

/-- The rows of R620. -/
theorem window_rows (i : Nat) (b : Byte) (s : State) :
    let r := windowRead i s
    let t := windowWrite i b s
    if i < 0xC0 then r = mainShRead i s ∧ t = mainShWrite i b s
    else if i < 0xD8 then
      r.2 = s ∧ (∀ k, k < 8 → r.1.getLsbD k = s.link.flag (8 * (i - 0xC0) + k)) ∧ t = s
    else if i = 0xE0 then
      r = (s.link.mboxS2m, s) ∧
      t = { s with link := { s.link with mboxM2s := b, intPending := t.link.intPending } } ∧
      ∀ k, k < 8 → t.link.intPending.getLsbD k = (s.link.intPending.getLsbD k || decide (k = 6))
    else if i = 0xE1 then r = (s.link.semaphore, s) ∧ t = { s with link.semaphore := b }
    else if i = 0xE2 then r = (s.link.latchS2m, s) ∧ t = { s with link.latchM2s := b }
    else if i = 0xE3 then r = (s.link.ramdir, s) ∧ t = s
    else r = (s.params.fill, s) ∧ t = s := by
  intro r t
  split_ifs with hshared hflags hmbox hsema hlatch hdir
  · exact ⟨if_pos hshared, if_pos hshared⟩
  · have hread : r = (s.link.accByte (i - 0xC0), s) := (if_neg hshared).trans (if_pos hflags)
    have hwrite : t = s := (if_neg hshared).trans
      ((if_neg (by omega)).trans ((if_neg (by omega)).trans (if_neg (by omega))))
    rw [hread, hwrite]
    exact ⟨rfl, fun k hk => accByte_getLsbD _ _ hk, rfl⟩
  · subst hmbox
    exact ⟨rfl, rfl, fun k hk => setPending_true_getLsbD _ 6 hk⟩
  · subst hsema
    exact ⟨rfl, rfl⟩
  · subst hlatch
    exact ⟨rfl, rfl⟩
  · subst hdir
    exact ⟨rfl, rfl⟩
  · simp only [r, t, windowRead, windowWrite, hshared, hflags, hmbox, hsema, hlatch, hdir, if_false, and_self]

/-- Settles O10: a word in RAM by `memWrite16_ram`, the shared window by `window_rows`, the map by `target_defaultMemMap`; at
any other target an access is the unit's own. -/
theorem busAccess : Obligations.BusAccess := by
  intro s pa v b
  refine ⟨fun ha h => ?word, fun h => ?unmapped, fun i h => ?rom1, fun i h => ?rom2, fun i h => ?ram, fun i h => ?sram,
    fun q h => ?pcm, fun i h => ?shared, fun h => ?ext, fun i h hext htmr hfrt => ?dev,
    fun hmap => ?map⟩
  case word =>
    obtain ⟨hread, hhigh, hlow, hslot⟩ := memWrite16_ram v ha h
    exact ⟨hread, hhigh, hlow, toNat_evenBelow pa, hslot, memWrite_arraysKeptBut (sz := .word) v h,
      memWrite_arraysOk (sz := .word) v ha h⟩
  case ram => exact ⟨by rw [read8, h], write8_ram b h⟩
  case sram => exact ⟨by rw [read8, h], write8_sram b h⟩
  case shared =>
    have hread : read8 pa s = windowRead i s := by rw [read8, h]
    have hwrite : write8 pa b s = windowWrite i b s := by rw [write8, h]
    rw [hread, hwrite]
    exact ⟨rfl, rfl, window_rows i b s⟩
  case ext => exact ⟨by rw [read8, h]; rfl, by rw [write8, h]; rfl⟩
  case dev =>
    rw [read8_dev h]
    exact devRead_state hext htmr hfrt
  case map => exact ⟨target_defaultMemMap hmap pa, fun pb hpa hpb => plainRam_target_inj hmap hpa hpb⟩
  all_goals exact ⟨by rw [read8, h], by rw [write8, h]⟩

end Sys2Proof.Machine
end

section
/-! Proofs. The fields of an encoding: what a byte's bit fields say about the byte, and what the decoders' readers of a byte
or a word do (R112, R113, R400). -/

namespace Sys2Proof.Machine

/-- A field of a stream, as the decoder reads it and the encoder writes it. -/
structure IsField {α : Type} (need : List Byte → (α → List Byte → Decoded) → Decoded) (bytes : α → List Byte) : Prop where
  readBack : ∀ v r k, need (bytes v ++ r) k = k v r
  /-- Reading asks for more bytes, or the stream begins with a field. -/
  inv : ∀ {P : Decoded → Prop} {r k}, P .more → (∀ v r', r = bytes v ++ r' → P (k v r')) → P (need r k)

theorem byteField : IsField need1 (fun b => [b]) where
  readBack _ _ _ := rfl
  inv {_ r _} hmore h := by
    cases r with
    | nil => exact hmore
    | cons b r => exact h b r rfl

theorem hi_ofBytes (h l : Byte) : (Word.ofBytes h l).hi = h := by
  apply BitVec.eq_of_toNat_eq
  rw [Word.hi, BitVec.extractLsb'_toNat, Word.toNat_ofBytes, Nat.shiftRight_eq_div_pow]
  omega

theorem lo_ofBytes (h l : Byte) : (Word.ofBytes h l).lo = l := by
  apply BitVec.eq_of_toNat_eq
  rw [Word.lo, BitVec.extractLsb'_toNat, Word.toNat_ofBytes, Nat.shiftRight_zero]
  omega

theorem wordField : IsField need2 Word.beBytes where
  readBack := need2_beBytes
  inv hmore h := byteField.inv hmore fun hi _ hhi => byteField.inv hmore fun lo _ hlo =>
    h _ _ (by rw [hhi, hlo, Word.beBytes, hi_ofBytes, lo_ofBytes]; rfl)

theorem subWordField : IsField needSub2 Word.leBytes where
  readBack := needSub2_leBytes
  inv hmore h := byteField.inv hmore fun lo _ hlo => byteField.inv hmore fun hi _ hhi =>
    h _ _ (by rw [hlo, hhi, Word.leBytes, hi_ofBytes, lo_ofBytes]; rfl)

theorem eq_byteOf {b : Byte} {k : Nat} (h : b.toNat = k) : b = byteOf k := by
  rw [← h, byteOf, BitVec.ofNat_toNat, BitVec.setWidth_eq]

theorem toNat_ofBits (b : BitVec 3) : (Reg.ofBits b).toNat = b.toNat := by
  revert b
  decide

theorem toNat_reg (b : Byte) : b.reg.toNat = b.toNat % 8 := by
  rw [Byte.reg, toNat_ofBits, BitVec.extractLsb'_toNat]
  rfl

theorem bit3_size (b : Byte) : b.size.bit3 = b.toNat / 8 % 2 * 8 := by
  have hbit : b.getLsbD 3 = decide (b.toNat / 2 ^ 3 % 2 = 1) := Nat.testBit_eq_decide_div_mod_eq
  rw [Byte.size, hbit]
  by_cases h : b.toNat / 2 ^ 3 % 2 = 1
  · simp only [h, decide_true, if_true, Size.bit3]
    omega
  · simp only [h, decide_false, Bool.false_eq_true, if_false, Size.bit3]
    omega

/-- A byte by its five high bits and its register number (R116, R122). -/
theorem eq_byteOf_row {b : Byte} {k : Nat} (h : b.toNat / 8 = k) : b = byteOf (8 * k + b.reg.toNat) := by
  apply eq_byteOf
  rw [toNat_reg]
  omega

/-- A byte by its four high bits, its size bit and its register number (R113). -/
theorem eq_byteOf_fields {b : Byte} {k : Nat} (h : b.toNat / 16 = k) :
    b = byteOf (16 * k + b.size.bit3 + b.reg.toNat) := by
  apply eq_byteOf
  rw [toNat_reg, bit3_size]
  omega

/-- The sixteen bit numbers of a byte's low half: those below 8 and those from 8 on. -/
theorem bitNumber_cases {P : BitVec 4 → Prop} (low : ∀ n : Reg, P (BitVec.ofNat 4 n.toNat))
    (high : ∀ n : Reg, P (BitVec.ofNat 4 (8 + n.toNat))) (b : BitVec 4) : P b := by
  have hb := b.isLt
  have hnum := toNat_ofBits (BitVec.ofNat 3 b.toNat)
  rw [BitVec.toNat_ofNat] at hnum
  by_cases h : b.toNat < 8
  · have := low (Reg.ofBits (BitVec.ofNat 3 b.toNat))
    rwa [hnum, Nat.mod_eq_of_lt h, BitVec.ofNat_toNat, BitVec.setWidth_eq] at this
  · have := high (Reg.ofBits (BitVec.ofNat 3 b.toNat))
    rwa [hnum, show 8 + b.toNat % 2 ^ 3 = b.toNat by omega, BitVec.ofNat_toNat, BitVec.setWidth_eq] at this

end Sys2Proof.Machine
end

section
/-! Proofs. The operation table of the general format, row by row: the byte of each row, the instruction it gives and which
operands R116 to R120, R131 and R350 allow there. Decoding and encoding both read the table from here. -/

namespace Sys2Proof.Machine

/-- The operation byte `op` after `ea` stands for `i`, where the operand is admitted. -/
structure OpRow (ea : EA) (op : Byte) (i : Instr) : Prop where
  decodes : ∀ r, decodeOp ea op r = admit1 ea i r
  encodes : encode i = ea.encode ++ [op]
  admits : admitsOp ea op = i.wf
  main : i.isSub8 = false
  whole : i.isSpecifier = false

/-- The operation byte `op` after `ea` stands for `f v` with the field `v` behind it, where the operand is admitted
(R117). -/
structure OpImmRow {α : Type} (need : List Byte → (α → List Byte → Decoded) → Decoded) (bytes : α → List Byte) (ea : EA)
    (op : Byte) (f : α → Instr) : Prop where
  decodes : ∀ r, decodeOp ea op r =
    if admitsOp ea op = true then need r fun v r => .ok (f v) r else .reservedOp ea.toInstr r
  encodes : ∀ v, encode (f v) = ea.encode ++ op :: bytes v
  admits : ∀ v, admitsOp ea op = (f v).wf
  main : ∀ v, (f v).isSub8 = false
  whole : ∀ v, (f v).isSpecifier = false

variable (ea : EA)

/-! ## The operand classes of R120 -/

theorem regOrMem_eq : ea.regOrMem = (ea.cls != .imm) := by cases ea <;> rfl

/-- The rows whose immediate operands name a control register take every other operand. -/
theorem data_or_eq_regOrMem {ea : EA} (h : ea.cls ≠ .imm) (b : Bool) : ((ea.cls != .imm) || b) = ea.regOrMem := by
  rw [regOrMem_eq, bne_iff_ne.mpr h, Bool.true_or]

theorem controlCodeOk_eq (cr : CReg) (sz : Size) : controlCodeOk cr.toNat sz = (sz == cr.size) := by cases cr <;> rfl

theorem data_or_eq_control {ea : EA} (h : ea.cls = .imm) (cr : CReg) :
    ((ea.cls != .imm) || controlCodeOk cr.toNat ea.size) = (ea.cls == .imm && ea.size == cr.size) := by
  rw [h, controlCodeOk_eq]
  rfl

/-! ## Slots 0 to 3 (R117 to R119) -/

theorem opRow_cmpGImm8 : OpImmRow need1 (fun b => [b]) ea 0x04#8 (.cmpGImm8 · ea) :=
  ⟨fun _ => rfl, fun _ => rfl, fun _ => rfl, fun _ => rfl, fun _ => rfl⟩

theorem opRow_cmpGImm16 : OpImmRow need2 Word.beBytes ea 0x05#8 (.cmpGImm16 · ea) :=
  ⟨fun _ => rfl, fun _ => rfl, fun _ => rfl, fun _ => rfl, fun _ => rfl⟩

theorem opRow_movGImm8 : OpImmRow need1 (fun b => [b]) ea 0x06#8 (.movGImm8 · ea) :=
  ⟨fun _ => rfl, fun _ => rfl, fun _ => rfl, fun _ => rfl, fun _ => rfl⟩

theorem opRow_movGImm16 : OpImmRow need2 Word.beBytes ea 0x07#8 (.movGImm16 · ea) :=
  ⟨fun _ => rfl, fun _ => rfl, fun _ => rfl, fun _ => rfl, fun _ => rfl⟩

theorem opRow_addQ (q : Quick) : OpRow ea (byteOf (0x08 + q.code)) (.addQ q ea) := by
  cases q <;> exact ⟨fun _ => rfl, rfl, (Bool.and_true _).trans (regOrMem_eq ea).symm, rfl, rfl⟩

theorem opRow_swap : OpRow ea 0x10#8 (.swap ea) := ⟨fun _ => rfl, rfl, rfl, rfl, rfl⟩
theorem opRow_exts : OpRow ea 0x11#8 (.exts ea) := ⟨fun _ => rfl, rfl, rfl, rfl, rfl⟩
theorem opRow_extu : OpRow ea 0x12#8 (.extu ea) := ⟨fun _ => rfl, rfl, rfl, rfl, rfl⟩
theorem opRow_clr : OpRow ea 0x13#8 (.clr ea) := ⟨fun _ => rfl, rfl, (regOrMem_eq ea).symm, rfl, rfl⟩
theorem opRow_neg : OpRow ea 0x14#8 (.neg ea) := ⟨fun _ => rfl, rfl, (regOrMem_eq ea).symm, rfl, rfl⟩
theorem opRow_not : OpRow ea 0x15#8 (.not ea) := ⟨fun _ => rfl, rfl, (regOrMem_eq ea).symm, rfl, rfl⟩
theorem opRow_tst : OpRow ea 0x16#8 (.tst ea) := ⟨fun _ => rfl, rfl, (regOrMem_eq ea).symm, rfl, rfl⟩
theorem opRow_tas : OpRow ea 0x17#8 (.tas ea) :=
  ⟨fun _ => rfl, rfl, congrArg (· && ea.size == .byte) (regOrMem_eq ea).symm, rfl, rfl⟩
theorem opRow_shal : OpRow ea 0x18#8 (.shal ea) := ⟨fun _ => rfl, rfl, (regOrMem_eq ea).symm, rfl, rfl⟩
theorem opRow_shar : OpRow ea 0x19#8 (.shar ea) := ⟨fun _ => rfl, rfl, (regOrMem_eq ea).symm, rfl, rfl⟩
theorem opRow_shll : OpRow ea 0x1A#8 (.shll ea) := ⟨fun _ => rfl, rfl, (regOrMem_eq ea).symm, rfl, rfl⟩
theorem opRow_shlr : OpRow ea 0x1B#8 (.shlr ea) := ⟨fun _ => rfl, rfl, (regOrMem_eq ea).symm, rfl, rfl⟩
theorem opRow_rotl : OpRow ea 0x1C#8 (.rotl ea) := ⟨fun _ => rfl, rfl, (regOrMem_eq ea).symm, rfl, rfl⟩
theorem opRow_rotr : OpRow ea 0x1D#8 (.rotr ea) := ⟨fun _ => rfl, rfl, (regOrMem_eq ea).symm, rfl, rfl⟩
theorem opRow_rotxl : OpRow ea 0x1E#8 (.rotxl ea) := ⟨fun _ => rfl, rfl, (regOrMem_eq ea).symm, rfl, rfl⟩
theorem opRow_rotxr : OpRow ea 0x1F#8 (.rotxr ea) := ⟨fun _ => rfl, rfl, (regOrMem_eq ea).symm, rfl, rfl⟩

/-! ## Operations with a register (R116) -/

variable (n : Reg)

theorem opRow_addG : OpRow ea (byteOf (0x20 + n.toNat)) (.addG ea n) := by
  cases n <;> exact ⟨fun _ => rfl, rfl, rfl, rfl, rfl⟩

theorem opRow_adds : OpRow ea (byteOf (0x28 + n.toNat)) (.adds ea n) := by
  cases n <;> exact ⟨fun _ => rfl, rfl, rfl, rfl, rfl⟩

theorem opRow_sub : OpRow ea (byteOf (0x30 + n.toNat)) (.sub ea n) := by
  cases n <;> exact ⟨fun _ => rfl, rfl, rfl, rfl, rfl⟩

theorem opRow_subs : OpRow ea (byteOf (0x38 + n.toNat)) (.subs ea n) := by
  cases n <;> exact ⟨fun _ => rfl, rfl, rfl, rfl, rfl⟩

theorem opRow_or : OpRow ea (byteOf (0x40 + n.toNat)) (.or ea n) := by
  cases n <;> exact ⟨fun _ => rfl, rfl, rfl, rfl, rfl⟩

theorem opRow_and : OpRow ea (byteOf (0x50 + n.toNat)) (.and ea n) := by
  cases n <;> exact ⟨fun _ => rfl, rfl, rfl, rfl, rfl⟩

theorem opRow_xor : OpRow ea (byteOf (0x60 + n.toNat)) (.xor ea n) := by
  cases n <;> exact ⟨fun _ => rfl, rfl, rfl, rfl, rfl⟩

theorem opRow_cmpG : OpRow ea (byteOf (0x70 + n.toNat)) (.cmpG ea n) := by
  cases n <;> exact ⟨fun _ => rfl, rfl, rfl, rfl, rfl⟩

theorem opRow_btstR : OpRow ea (byteOf (0x78 + n.toNat)) (.btstR n ea) := by
  cases n <;> exact ⟨fun _ => rfl, rfl, (regOrMem_eq ea).symm, rfl, rfl⟩

theorem opRow_movGLoad : OpRow ea (byteOf (0x80 + n.toNat)) (.movGLoad ea n) := by
  cases n <;> exact ⟨fun _ => rfl, rfl, rfl, rfl, rfl⟩

theorem opRow_addx : OpRow ea (byteOf (0xA0 + n.toNat)) (.addx ea n) := by
  cases n <;> exact ⟨fun _ => rfl, rfl, rfl, rfl, rfl⟩

theorem opRow_mulxu : OpRow ea (byteOf (0xA8 + n.toNat)) (.mulxu ea n) := by
  cases n <;> exact ⟨fun _ => rfl, rfl, rfl, rfl, rfl⟩

theorem opRow_subx : OpRow ea (byteOf (0xB0 + n.toNat)) (.subx ea n) := by
  cases n <;> exact ⟨fun _ => rfl, rfl, rfl, rfl, rfl⟩

theorem opRow_divxu : OpRow ea (byteOf (0xB8 + n.toNat)) (.divxu ea n) := by
  cases n <;> exact ⟨fun _ => rfl, rfl, rfl, rfl, rfl⟩

/-! ## Rows whose meaning depends on the operand's class -/

section data

variable {ea : EA} (h : ea.cls ≠ .imm)
include h

theorem opRow_bsetR : OpRow ea (byteOf (0x48 + n.toNat)) (.bsetR n ea) := by
  cases n <;> exact ⟨fun _ => if_neg (mt eq_of_beq h), rfl, data_or_eq_regOrMem h _, rfl, rfl⟩

theorem opRow_bclrR : OpRow ea (byteOf (0x58 + n.toNat)) (.bclrR n ea) := by
  cases n <;> exact ⟨fun _ => if_neg (mt eq_of_beq h), rfl, data_or_eq_regOrMem h _, rfl, rfl⟩

theorem opRow_bnotR : OpRow ea (byteOf (0x68 + n.toNat)) (.bnotR n ea) := by
  cases n <;> exact ⟨fun _ => if_neg (mt eq_of_beq h), rfl, data_or_eq_regOrMem h _, rfl, rfl⟩

end data

section immediate

variable {ea : EA} (h : ea.cls = .imm) (cr : CReg)
include h

theorem opRow_orc : OpRow ea (byteOf (0x48 + cr.toNat)) (.orc ea cr) := by
  have hadmits := data_or_eq_control h cr
  cases cr <;> exact ⟨fun _ => if_pos (beq_iff_eq.mpr h), rfl, hadmits, rfl, rfl⟩

theorem opRow_andc : OpRow ea (byteOf (0x58 + cr.toNat)) (.andc ea cr) := by
  have hadmits := data_or_eq_control h cr
  cases cr <;> exact ⟨fun _ => if_pos (beq_iff_eq.mpr h), rfl, hadmits, rfl, rfl⟩

theorem opRow_xorc : OpRow ea (byteOf (0x68 + cr.toNat)) (.xorc ea cr) := by
  have hadmits := data_or_eq_control h cr
  cases cr <;> exact ⟨fun _ => if_pos (beq_iff_eq.mpr h), rfl, hadmits, rfl, rfl⟩

end immediate

theorem opRow_xch {ea : EA} (h : ea.cls = .reg) : OpRow ea (byteOf (0x90 + n.toNat)) (.xch n ea) := by
  have hadmits : (ea.cls == .mem || (ea.cls == .reg && ea.size == .word)) = (ea.cls == .reg && ea.size == .word) := by
    rw [h]
    rfl
  cases n <;> exact ⟨fun _ => if_pos (beq_iff_eq.mpr h), rfl, hadmits, rfl, rfl⟩

theorem opRow_movGStore {ea : EA} (h : ea.cls ≠ .reg) : OpRow ea (byteOf (0x90 + n.toNat)) (.movGStore n ea) := by
  have hadmits : (ea.cls == .mem || (ea.cls == .reg && ea.size == .word)) = (ea.cls == .mem) := by
    rw [beq_eq_false_iff_ne.mpr h, Bool.false_and, Bool.or_false]
  cases n <;> exact ⟨fun _ => if_neg (mt eq_of_beq h), rfl, hadmits, rfl, rfl⟩

/-! ## Control registers and bit numbers -/

theorem opRow_ldc (cr : CReg) : OpRow ea (byteOf (0x88 + cr.toNat)) (.ldc ea cr) := by
  cases cr <;> exact ⟨fun _ => rfl, rfl, rfl, rfl, rfl⟩

theorem opRow_stc (cr : CReg) : OpRow ea (byteOf (0x98 + cr.toNat)) (.stc cr ea) := by
  cases cr <;> exact ⟨fun _ => rfl, rfl, congrArg (· && _) (regOrMem_eq ea).symm, rfl, rfl⟩

theorem opRow_bsetI (b : BitVec 4) : OpRow ea (byteOf (0xC0 + b.toNat)) (.bsetI b ea) := by
  cases b using bitNumber_cases with
  | low n => cases n <;> exact ⟨fun _ => rfl, rfl, (regOrMem_eq ea).symm, rfl, rfl⟩
  | high n => cases n <;> exact ⟨fun _ => rfl, rfl, (regOrMem_eq ea).symm, rfl, rfl⟩

theorem opRow_bclrI (b : BitVec 4) : OpRow ea (byteOf (0xD0 + b.toNat)) (.bclrI b ea) := by
  cases b using bitNumber_cases with
  | low n => cases n <;> exact ⟨fun _ => rfl, rfl, (regOrMem_eq ea).symm, rfl, rfl⟩
  | high n => cases n <;> exact ⟨fun _ => rfl, rfl, (regOrMem_eq ea).symm, rfl, rfl⟩

theorem opRow_bnotI (b : BitVec 4) : OpRow ea (byteOf (0xE0 + b.toNat)) (.bnotI b ea) := by
  cases b using bitNumber_cases with
  | low n => cases n <;> exact ⟨fun _ => rfl, rfl, (regOrMem_eq ea).symm, rfl, rfl⟩
  | high n => cases n <;> exact ⟨fun _ => rfl, rfl, (regOrMem_eq ea).symm, rfl, rfl⟩

theorem opRow_btstI (b : BitVec 4) : OpRow ea (byteOf (0xF0 + b.toNat)) (.btstI b ea) := by
  cases b using bitNumber_cases with
  | low n => cases n <;> exact ⟨fun _ => rfl, rfl, (regOrMem_eq ea).symm, rfl, rfl⟩
  | high n => cases n <;> exact ⟨fun _ => rfl, rfl, (regOrMem_eq ea).symm, rfl, rfl⟩

end Sys2Proof.Machine
end

section
/-! Proofs. MAIN16: what the encoder writes the decoder reads back (R110 to R123). -/

namespace Sys2Proof.Machine

variable {ea : EA} {op : Byte}

/-- An operation of the table reads back. -/
theorem OpRow.decode_encode {i : Instr} (h : OpRow ea op i) (hwf : i.wf = true) (r : List Byte) :
    decode (encode i ++ r) = .ok i r := by
  rw [h.encodes, List.append_assoc, decode_specifier]
  exact (h.decodes r).trans (admit1_wf ea i r hwf)

/-- An operation of the table with a field behind it reads back. -/
theorem OpImmRow.decode_encode {α : Type} {need : List Byte → (α → List Byte → Decoded) → Decoded}
    {bytes : α → List Byte} {f : α → Instr} (hfield : IsField need bytes) (h : OpImmRow need bytes ea op f) {v : α}
    (hwf : (f v).wf = true) (r : List Byte) : decode (encode (f v) ++ r) = .ok (f v) r := by
  rw [h.encodes, List.append_assoc, decode_specifier]
  calc decodeOp ea op (bytes v ++ r)
    _ = need (bytes v ++ r) (fun v r => .ok (f v) r) := by rw [h.decodes, h.admits v, if_pos hwf]
    _ = .ok (f v) r := hfield.readBack v r _

/-- A word field at the end of an instruction, put together from its bytes. -/
theorem ok_ofBytes_hi_lo (f : Word → Instr) (v : Word) (r : List Byte) :
    Decoded.ok (f (Word.ofBytes v.hi v.lo)) r = .ok (f v) r := by rw [Word.ofBytes_hi_lo]

/-- A condition number reads back with a displacement of either size (R300). -/
theorem decode_encodeBcc (cc : Fin 16) (d : Disp) (r : List Byte) :
    decode (encodeBcc cc d ++ r) = .ok (bccOf cc d) r := by
  cases d with
  | d8 d => fin_cases cc <;> rfl
  | d16 d => fin_cases cc <;> exact ok_ofBytes_hi_lo (fun w => bccOf _ (.d16 w)) d r

/-- JMP and JSR through a register read back (R122). -/
theorem decode_encodeJump (t : JumpEA) (r : List Byte) :
    decode (encodeJump 0xD0 t ++ r) = .ok (.jmpInd t) r ∧ decode (encodeJump 0xD8 t ++ r) = .ok (.jsrInd t) r := by
  cases t with
  | ind n => cases n <;> exact ⟨rfl, rfl⟩
  | disp8 n d => cases n <;> exact ⟨rfl, rfl⟩
  | disp16 n d =>
    cases n <;> exact ⟨ok_ofBytes_hi_lo (fun w => .jmpInd (.disp16 _ w)) d r,
      ok_ofBytes_hi_lo (fun w => .jsrInd (.disp16 _ w)) d r⟩

theorem cls_ne_imm_of_regOrMem (h : ea.regOrMem = true) : ea.cls ≠ .imm := bne_iff_ne.mp ((regOrMem_eq ea).symm.trans h)

theorem cls_eq_of_and {c : EAClass} {b : Bool} (h : (ea.cls == c && b) = true) : ea.cls = c :=
  beq_iff_eq.mp (Bool.and_eq_true_iff.mp h).1

theorem decode_encode (i : Instr) (r : List Byte) (hwf : i.wf = true) (hmain : i.isSub8 = false)
    (hwhole : i.isSpecifier = false) : decode (encode i ++ r) = .ok i r := by
  cases i with
  | eaReg | eaPreDec | eaPostInc | eaInd | eaDisp8 | eaDisp16 | eaAbs8 | eaAbs16 | eaImm8 | eaImm16 => cases hwhole
  -- the general format
  | cmpGImm8 v ea => exact (opRow_cmpGImm8 ea).decode_encode byteField hwf r
  | cmpGImm16 v ea => exact (opRow_cmpGImm16 ea).decode_encode wordField hwf r
  | movGImm8 v ea => exact (opRow_movGImm8 ea).decode_encode byteField hwf r
  | movGImm16 v ea => exact (opRow_movGImm16 ea).decode_encode wordField hwf r
  | addQ q ea => exact (opRow_addQ ea q).decode_encode hwf r
  | swap ea => exact (opRow_swap ea).decode_encode hwf r
  | exts ea => exact (opRow_exts ea).decode_encode hwf r
  | extu ea => exact (opRow_extu ea).decode_encode hwf r
  | clr ea => exact (opRow_clr ea).decode_encode hwf r
  | neg ea => exact (opRow_neg ea).decode_encode hwf r
  | not ea => exact (opRow_not ea).decode_encode hwf r
  | tst ea => exact (opRow_tst ea).decode_encode hwf r
  | tas ea => exact (opRow_tas ea).decode_encode hwf r
  | shal ea => exact (opRow_shal ea).decode_encode hwf r
  | shar ea => exact (opRow_shar ea).decode_encode hwf r
  | shll ea => exact (opRow_shll ea).decode_encode hwf r
  | shlr ea => exact (opRow_shlr ea).decode_encode hwf r
  | rotl ea => exact (opRow_rotl ea).decode_encode hwf r
  | rotr ea => exact (opRow_rotr ea).decode_encode hwf r
  | rotxl ea => exact (opRow_rotxl ea).decode_encode hwf r
  | rotxr ea => exact (opRow_rotxr ea).decode_encode hwf r
  | addG ea n => exact (opRow_addG ea n).decode_encode hwf r
  | adds ea n => exact (opRow_adds ea n).decode_encode hwf r
  | sub ea n => exact (opRow_sub ea n).decode_encode hwf r
  | subs ea n => exact (opRow_subs ea n).decode_encode hwf r
  | or ea n => exact (opRow_or ea n).decode_encode hwf r
  | bsetR n ea => exact (opRow_bsetR n (cls_ne_imm_of_regOrMem hwf)).decode_encode hwf r
  | orc ea cr => exact (opRow_orc (cls_eq_of_and hwf) cr).decode_encode hwf r
  | and ea n => exact (opRow_and ea n).decode_encode hwf r
  | bclrR n ea => exact (opRow_bclrR n (cls_ne_imm_of_regOrMem hwf)).decode_encode hwf r
  | andc ea cr => exact (opRow_andc (cls_eq_of_and hwf) cr).decode_encode hwf r
  | xor ea n => exact (opRow_xor ea n).decode_encode hwf r
  | bnotR n ea => exact (opRow_bnotR n (cls_ne_imm_of_regOrMem hwf)).decode_encode hwf r
  | xorc ea cr => exact (opRow_xorc (cls_eq_of_and hwf) cr).decode_encode hwf r
  | cmpG ea n => exact (opRow_cmpG ea n).decode_encode hwf r
  | btstR n ea => exact (opRow_btstR ea n).decode_encode hwf r
  | movGLoad ea n => exact (opRow_movGLoad ea n).decode_encode hwf r
  | ldc ea cr => exact (opRow_ldc ea cr).decode_encode hwf r
  | xch n ea => exact (opRow_xch n (cls_eq_of_and hwf)).decode_encode hwf r
  | movGStore n ea =>
    have hmem : ea.cls = .mem := beq_iff_eq.mp hwf
    exact (opRow_movGStore n (by simp [hmem])).decode_encode hwf r
  | stc cr ea => exact (opRow_stc ea cr).decode_encode hwf r
  | addx ea n => exact (opRow_addx ea n).decode_encode hwf r
  | mulxu ea n => exact (opRow_mulxu ea n).decode_encode hwf r
  | subx ea n => exact (opRow_subx ea n).decode_encode hwf r
  | divxu ea n => exact (opRow_divxu ea n).decode_encode hwf r
  | bsetI b ea => exact (opRow_bsetI ea b).decode_encode hwf r
  | bclrI b ea => exact (opRow_bclrI ea b).decode_encode hwf r
  | bnotI b ea => exact (opRow_bnotI ea b).decode_encode hwf r
  | btstI b ea => exact (opRow_btstI ea b).decode_encode hwf r
  -- the short format: no register in an opcode byte
  | nop | rte | unlk | rts | sleep | prts | ldm | stm => rfl
  | pjsrAbs p a => exact ok_ofBytes_hi_lo (.pjsrAbs p) a r
  | pjmpAbs p a => exact ok_ofBytes_hi_lo (.pjmpAbs p) a r
  | jmpAbs a => exact ok_ofBytes_hi_lo .jmpAbs a r
  | jsrAbs a => exact ok_ofBytes_hi_lo .jsrAbs a r
  | trapa n =>
    cases n using bitNumber_cases with
    | low n => cases n <;> rfl
    | high n => cases n <;> rfl
  | bsr d =>
    cases d with
    | d8 d => rfl
    | d16 d => exact ok_ofBytes_hi_lo (fun w => .bsr (.d16 w)) d r
  | rtd v =>
    cases v with
    | i8 v => rfl
    | i16 v => exact ok_ofBytes_hi_lo (fun w => .rtd (.i16 w)) v r
  | link v =>
    cases v with
    | i8 v => rfl
    | i16 v => exact ok_ofBytes_hi_lo (fun w => .link (.i16 w)) v r
  | prtd v =>
    cases v with
    | i8 v => rfl
    | i16 v => exact ok_ofBytes_hi_lo (fun w => .prtd (.i16 w)) v r
  | bra d => exact decode_encodeBcc 0 d r
  | brn d => exact decode_encodeBcc 1 d r
  | bhi d => exact decode_encodeBcc 2 d r
  | bls d => exact decode_encodeBcc 3 d r
  | bcc d => exact decode_encodeBcc 4 d r
  | bcs d => exact decode_encodeBcc 5 d r
  | bne d => exact decode_encodeBcc 6 d r
  | beq d => exact decode_encodeBcc 7 d r
  | bvc d => exact decode_encodeBcc 8 d r
  | bvs d => exact decode_encodeBcc 9 d r
  | bpl d => exact decode_encodeBcc 10 d r
  | bmi d => exact decode_encodeBcc 11 d r
  | bge d => exact decode_encodeBcc 12 d r
  | blt d => exact decode_encodeBcc 13 d r
  | bgt d => exact decode_encodeBcc 14 d r
  | ble d => exact decode_encodeBcc 15 d r
  -- the short format: a register in an opcode byte
  | scbF n d | scbNe n d | scbEq n d => cases n <;> rfl
  | cmpE v n | movE v n => cases n <;> rfl
  | cmpI v n => cases n <;> exact ok_ofBytes_hi_lo (.cmpI · _) v r
  | movI v n => cases n <;> exact ok_ofBytes_hi_lo (.movI · _) v r
  | movL sz a n | movFLoad sz a n => cases sz <;> cases n <;> rfl
  | movS sz n a | movFStore sz n a => cases sz <;> cases n <;> rfl
  | pjmpInd n | pjsrInd n =>
    cases n with
    | r7 => cases hwf
    | r0 | r1 | r2 | r3 | r4 | r5 | r6 => rfl
  | jmpInd t => exact (decode_encodeJump t r).1
  | jsrInd t => exact (decode_encodeJump t r).2
  | _ => cases hmain

/-- Settles O2, by `decode_encode`. -/
theorem mainDecodeEncode : Obligations.MainDecodeEncode := decode_encode

end Sys2Proof.Machine
end

section
/-! Proofs. What the decoder of MAIN16 answers, and for which bytes: an instruction's own encoding, a specifier with an
operation byte that is not admitted, or something reserved (R110 to R132). -/

namespace Sys2Proof.Machine

/-- An instruction of MAIN16 that has an encoding and is more than a specifier. -/
structure IsMain (i : Instr) : Prop where
  wf : i.wf = true
  main : i.isSub8 = false
  whole : i.isSpecifier = false

/-- What the bytes `bs` may be for the decoder of MAIN16. -/
inductive MainReads (bs : List Byte) : Decoded → Prop
  | more : MainReads bs .more
  | reserved (r : List Byte) : MainReads bs (.reserved r)
  | reservedOp {ea op r} (hop : admitsOp ea op = false) (hbytes : bs = ea.encode ++ op :: r) :
    MainReads bs (.reservedOp ea.toInstr r)
  | ok {i r} (hi : IsMain i) (hbytes : bs = encode i ++ r) : MainReads bs (.ok i r)

/-- What an operation byte after a specifier may be: it is refused exactly where it is not admitted. -/
inductive OpReads (ea : EA) (op : Byte) (r : List Byte) : Decoded → Prop
  | more (hop : admitsOp ea op = true) : OpReads ea op r .more
  | reservedOp (hop : admitsOp ea op = false) : OpReads ea op r (.reservedOp ea.toInstr r)
  | ok {i r'} (hop : admitsOp ea op = true) (hi : IsMain i) (hbytes : ea.encode ++ op :: r = encode i ++ r') :
    OpReads ea op r (.ok i r')

section table

variable {ea : EA} {op : Byte}

theorem OpRow.reads {i : Instr} (h : OpRow ea op i) (r : List Byte) : OpReads ea op r (decodeOp ea op r) := by
  rw [h.decodes, admit1]
  split
  next hwf => exact .ok (h.admits.trans hwf) ⟨hwf, h.main, h.whole⟩ (by rw [h.encodes, List.append_assoc]; rfl)
  next hwf => exact .reservedOp (h.admits.trans (Bool.eq_false_iff.mpr hwf))

theorem OpImmRow.reads {α : Type} {need : List Byte → (α → List Byte → Decoded) → Decoded} {bytes : α → List Byte}
    {f : α → Instr} (hfield : IsField need bytes) (h : OpImmRow need bytes ea op f) (r : List Byte) :
    OpReads ea op r (decodeOp ea op r) := by
  rw [h.decodes]
  split
  next hop =>
    refine hfield.inv (P := OpReads ea op r) (.more hop) fun v r' hr => ?_
    exact .ok hop ⟨(h.admits v).symm.trans hop, h.main v, h.whole v⟩ (by rw [h.encodes, hr, List.append_assoc]; rfl)
  next hop => exact .reservedOp (Bool.eq_false_iff.mpr hop)

/-- A row of control registers: the codes 2 and 6 name none (R131, R350). -/
theorem controlRow_reads {base : Nat} {f : CReg → Instr} {r : List Byte}
    (hrow : ∀ cr, OpRow ea (byteOf (base + cr.toNat)) (f cr))
    (hnone : ∀ n, n = Reg.r2 ∨ n = Reg.r6 → admitsOp ea (byteOf (base + n.toNat)) = false ∧
      decodeOp ea (byteOf (base + n.toNat)) r = .reservedOp ea.toInstr r) (n : Reg) :
    OpReads ea (byteOf (base + n.toNat)) r (decodeOp ea (byteOf (base + n.toNat)) r) := by
  have hreserved (h : n = Reg.r2 ∨ n = Reg.r6) :
      OpReads ea (byteOf (base + n.toNat)) r (decodeOp ea (byteOf (base + n.toNat)) r) := by
    obtain ⟨hop, hdecode⟩ := hnone n h
    exact hdecode ▸ .reservedOp hop
  cases n with
  | r0 => exact (hrow .sr).reads r
  | r1 => exact (hrow .ccr).reads r
  | r2 => exact hreserved (.inl rfl)
  | r3 => exact (hrow .br).reads r
  | r4 => exact (hrow .ep).reads r
  | r5 => exact (hrow .dp).reads r
  | r6 => exact hreserved (.inr rfl)
  | r7 => exact (hrow .tp).reads r

/-- The rows whose immediate operands name a control register and whose other operands a bit (R116, R350). -/
theorem logicRow_reads {base : Nat} {f : CReg → Instr} {g : Reg → Instr} {r : List Byte}
    (hcontrol : ea.cls = .imm → ∀ cr, OpRow ea (byteOf (base + cr.toNat)) (f cr))
    (hdata : ea.cls ≠ .imm → ∀ n, OpRow ea (byteOf (base + n.toNat)) (g n))
    (hnone : ea.cls = .imm → ∀ n, n = Reg.r2 ∨ n = Reg.r6 → admitsOp ea (byteOf (base + n.toNat)) = false ∧
      decodeOp ea (byteOf (base + n.toNat)) r = .reservedOp ea.toInstr r) (n : Reg) :
    OpReads ea (byteOf (base + n.toNat)) r (decodeOp ea (byteOf (base + n.toNat)) r) := by
  by_cases h : ea.cls = .imm
  · exact controlRow_reads (hcontrol h) (hnone h) n
  · exact (hdata h n).reads r

theorem data_or_false (h : ea.cls = .imm) : ((ea.cls != .imm) || false) = false := by
  rw [h]
  rfl

end table

theorem decodeOp_reads (ea : EA) (op : Byte) (r : List Byte) : OpReads ea op r (decodeOp ea op r) := by
  obtain ⟨k, n, hk, rfl⟩ : ∃ (k : Nat) (n : Reg), k < 32 ∧ op = byteOf (8 * k + n.toNat) :=
    ⟨op.toNat / 8, op.reg, by omega, eq_byteOf_row rfl⟩
  match k, hk with
  | 0x00, _ =>
    cases n with
    | r0 | r1 | r2 | r3 => exact .reservedOp rfl
    | r4 => exact (opRow_cmpGImm8 ea).reads byteField r
    | r5 => exact (opRow_cmpGImm16 ea).reads wordField r
    | r6 => exact (opRow_movGImm8 ea).reads byteField r
    | r7 => exact (opRow_movGImm16 ea).reads wordField r
  | 0x01, _ =>
    cases n with
    | r0 => exact (opRow_addQ ea .plus1).reads r
    | r1 => exact (opRow_addQ ea .plus2).reads r
    | r4 => exact (opRow_addQ ea .minus1).reads r
    | r5 => exact (opRow_addQ ea .minus2).reads r
    | r2 | r3 | r6 | r7 => exact .reservedOp (Bool.and_false _)
  | 0x02, _ =>
    cases n with
    | r0 => exact (opRow_swap ea).reads r
    | r1 => exact (opRow_exts ea).reads r
    | r2 => exact (opRow_extu ea).reads r
    | r3 => exact (opRow_clr ea).reads r
    | r4 => exact (opRow_neg ea).reads r
    | r5 => exact (opRow_not ea).reads r
    | r6 => exact (opRow_tst ea).reads r
    | r7 => exact (opRow_tas ea).reads r
  | 0x03, _ =>
    cases n with
    | r0 => exact (opRow_shal ea).reads r
    | r1 => exact (opRow_shar ea).reads r
    | r2 => exact (opRow_shll ea).reads r
    | r3 => exact (opRow_shlr ea).reads r
    | r4 => exact (opRow_rotl ea).reads r
    | r5 => exact (opRow_rotr ea).reads r
    | r6 => exact (opRow_rotxl ea).reads r
    | r7 => exact (opRow_rotxr ea).reads r
  | 0x04, _ => exact (opRow_addG ea n).reads r
  | 0x05, _ => exact (opRow_adds ea n).reads r
  | 0x06, _ => exact (opRow_sub ea n).reads r
  | 0x07, _ => exact (opRow_subs ea n).reads r
  | 0x08, _ => exact (opRow_or ea n).reads r
  | 0x09, _ =>
    refine logicRow_reads (fun h => opRow_orc h) (fun h n => opRow_bsetR n h) (fun h n hn => ?_) n
    rcases hn with rfl | rfl <;> exact ⟨data_or_false h, if_pos (beq_iff_eq.mpr h)⟩
  | 0x0A, _ => exact (opRow_and ea n).reads r
  | 0x0B, _ =>
    refine logicRow_reads (fun h => opRow_andc h) (fun h n => opRow_bclrR n h) (fun h n hn => ?_) n
    rcases hn with rfl | rfl <;> exact ⟨data_or_false h, if_pos (beq_iff_eq.mpr h)⟩
  | 0x0C, _ => exact (opRow_xor ea n).reads r
  | 0x0D, _ =>
    refine logicRow_reads (fun h => opRow_xorc h) (fun h n => opRow_bnotR n h) (fun h n hn => ?_) n
    rcases hn with rfl | rfl <;> exact ⟨data_or_false h, if_pos (beq_iff_eq.mpr h)⟩
  | 0x0E, _ => exact (opRow_cmpG ea n).reads r
  | 0x0F, _ => exact (opRow_btstR ea n).reads r
  | 0x10, _ => exact (opRow_movGLoad ea n).reads r
  | 0x11, _ =>
    refine controlRow_reads (opRow_ldc ea) (fun n hn => ?_) n
    rcases hn with rfl | rfl <;> exact ⟨rfl, rfl⟩
  | 0x12, _ =>
    by_cases h : ea.cls = .reg
    · exact (opRow_xch n h).reads r
    · exact (opRow_movGStore n h).reads r
  | 0x13, _ =>
    refine controlRow_reads (opRow_stc ea) (fun n hn => ?_) n
    rcases hn with rfl | rfl <;> exact ⟨Bool.and_false _, rfl⟩
  | 0x14, _ => exact (opRow_addx ea n).reads r
  | 0x15, _ => exact (opRow_mulxu ea n).reads r
  | 0x16, _ => exact (opRow_subx ea n).reads r
  | 0x17, _ => exact (opRow_divxu ea n).reads r
  | 0x18, _ =>
    have hrow := opRow_bsetI ea (BitVec.ofNat 4 n.toNat)
    cases n <;> exact hrow.reads r
  | 0x19, _ =>
    have hrow := opRow_bsetI ea (BitVec.ofNat 4 (8 + n.toNat))
    cases n <;> exact hrow.reads r
  | 0x1A, _ =>
    have hrow := opRow_bclrI ea (BitVec.ofNat 4 n.toNat)
    cases n <;> exact hrow.reads r
  | 0x1B, _ =>
    have hrow := opRow_bclrI ea (BitVec.ofNat 4 (8 + n.toNat))
    cases n <;> exact hrow.reads r
  | 0x1C, _ =>
    have hrow := opRow_bnotI ea (BitVec.ofNat 4 n.toNat)
    cases n <;> exact hrow.reads r
  | 0x1D, _ =>
    have hrow := opRow_bnotI ea (BitVec.ofNat 4 (8 + n.toNat))
    cases n <;> exact hrow.reads r
  | 0x1E, _ =>
    have hrow := opRow_btstI ea (BitVec.ofNat 4 n.toNat)
    cases n <;> exact hrow.reads r
  | 0x1F, _ =>
    have hrow := opRow_btstI ea (BitVec.ofNat 4 (8 + n.toNat))
    cases n <;> exact hrow.reads r
  | _ + 0x20, hk => exact absurd hk (by omega)

theorem OpReads.mainReads {ea : EA} {op : Byte} {r : List Byte} {d : Decoded} (h : OpReads ea op r d) :
    MainReads (ea.encode ++ op :: r) d := by
  cases h with
  | more _ => exact .more
  | reservedOp hop => exact .reservedOp hop rfl
  | ok _ hi hbytes => exact .ok hi hbytes

/-- A specifier and what follows it (R115). -/
theorem decodeGeneral_reads (ea : EA) (r : List Byte) : MainReads (ea.encode ++ r) (decodeGeneral ea r) :=
  byteField.inv (P := MainReads _) .more fun op r' hr => hr ▸ (decodeOp_reads ea op r').mainReads

namespace MainReads

variable {α : Type} {need : List Byte → (α → List Byte → Decoded) → Decoded} {bytes : α → List Byte} {pre : List Byte}

/-- An instruction that ends with a field. -/
theorem field (hfield : IsField need bytes) {f : α → Instr} (hi : ∀ v, IsMain (f v))
    (hencode : ∀ v, encode (f v) = pre ++ bytes v) (r : List Byte) :
    MainReads (pre ++ r) (need r fun v r => .ok (f v) r) :=
  hfield.inv .more fun v r' hr => .ok (hi v) (by rw [hr, hencode, List.append_assoc])

/-- A specifier that ends with a field. -/
theorem specifier (hfield : IsField need bytes) {f : α → EA} (hencode : ∀ v, (f v).encode = pre ++ bytes v)
    (r : List Byte) : MainReads (pre ++ r) (need r fun v r => decodeGeneral (f v) r) :=
  hfield.inv .more fun v r' hr => by
    rw [hr, ← List.append_assoc, ← hencode]
    exact decodeGeneral_reads (f v) r'

end MainReads

/-- SCB (R123). -/
theorem decodeScb_reads {b0 : Byte} {f : Reg → Byte → Instr} (hi : ∀ n d, IsMain (f n d))
    (hencode : ∀ n d, encode (f n d) = [b0, byteOf (0xB8 + n.toNat), d]) (r : List Byte) :
    MainReads (b0 :: r) (decodeScb f r) := by
  refine byteField.inv (P := MainReads _) .more fun b1 r' hr => ?_
  subst hr
  split
  next h => exact .field byteField (pre := [b0, b1]) (hi _) (fun d => (hencode _ d).trans (by rw [← eq_byteOf_row h]; rfl)) r'
  next => exact .reserved r'

/-- The second byte after 0x11 (R122, R130). -/
theorem decode11_reads (b1 : Byte) (r : List Byte) : MainReads (0x11#8 :: b1 :: r) (decode11 b1 r) := by
  unfold decode11
  dsimp only
  split
  next h =>
    split
    · exact .reserved r
    next hn => exact .ok ⟨bne_iff_ne.mpr (by simpa using hn), rfl, rfl⟩ (congrArg (0x11#8 :: · :: r) (eq_byteOf_row h))
  next h =>
    split
    · exact .reserved r
    next hn => exact .ok ⟨bne_iff_ne.mpr (by simpa using hn), rfl, rfl⟩ (congrArg (0x11#8 :: · :: r) (eq_byteOf_row h))
  next h => exact .ok ⟨rfl, rfl, rfl⟩ (congrArg (0x11#8 :: · :: r) (eq_byteOf_row h))
  next h => exact .ok ⟨rfl, rfl, rfl⟩ (congrArg (0x11#8 :: · :: r) (eq_byteOf_row h))
  next h =>
    exact .field byteField (pre := [0x11#8, b1]) (f := fun d => .jmpInd (.disp8 b1.reg d)) (fun _ => ⟨rfl, rfl, rfl⟩)
      (fun d => congrArg (0x11#8 :: · :: [d]) (eq_byteOf_row h).symm) r
  next h =>
    exact .field byteField (pre := [0x11#8, b1]) (f := fun d => .jsrInd (.disp8 b1.reg d)) (fun _ => ⟨rfl, rfl, rfl⟩)
      (fun d => congrArg (0x11#8 :: · :: [d]) (eq_byteOf_row h).symm) r
  next h =>
    exact .field wordField (pre := [0x11#8, b1]) (f := fun d => .jmpInd (.disp16 b1.reg d)) (fun _ => ⟨rfl, rfl, rfl⟩)
      (fun d => congrArg (0x11#8 :: · :: d.beBytes) (eq_byteOf_row h).symm) r
  next h =>
    exact .field wordField (pre := [0x11#8, b1]) (f := fun d => .jsrInd (.disp16 b1.reg d)) (fun _ => ⟨rfl, rfl, rfl⟩)
      (fun d => congrArg (0x11#8 :: · :: d.beBytes) (eq_byteOf_row h).symm) r
  next =>
    split
    next h =>
      obtain rfl := eq_byteOf h
      exact .field byteField (pre := [0x11#8, 0x14#8]) (fun _ => ⟨rfl, rfl, rfl⟩) (fun _ => rfl) r
    next h =>
      obtain rfl := eq_byteOf h
      exact .ok ⟨rfl, rfl, rfl⟩ rfl
    next h =>
      obtain rfl := eq_byteOf h
      exact .field wordField (pre := [0x11#8, 0x1C#8]) (fun _ => ⟨rfl, rfl, rfl⟩) (fun _ => rfl) r
    next => exact .reserved r

/-- First bytes 0x00 to 0x1F (R111, R113, R121). -/
theorem decodeLow_reads {k : Nat} (hk : k < 32) (r : List Byte) : MainReads (byteOf k :: r) (decodeLow (byteOf k) r) := by
  match k, hk with
  | 0x00, _ => exact .ok ⟨rfl, rfl, rfl⟩ rfl
  | 0x01, _ => exact decodeScb_reads (fun _ _ => ⟨rfl, rfl, rfl⟩) (fun _ _ => rfl) r
  | 0x02, _ => exact .field byteField (pre := [0x02#8]) (fun _ => ⟨rfl, rfl, rfl⟩) (fun _ => rfl) r
  | 0x03, _ =>
    refine byteField.inv (P := MainReads _) .more fun p r' hr => hr ▸ ?_
    exact .field wordField (pre := [0x03#8, p]) (fun _ => ⟨rfl, rfl, rfl⟩) (fun _ => rfl) r'
  | 0x04, _ => exact .specifier byteField (pre := [0x04#8]) (fun _ => rfl) r
  | 0x05, _ => exact .specifier byteField (pre := [0x05#8]) (fun _ => rfl) r
  | 0x06, _ => exact decodeScb_reads (fun _ _ => ⟨rfl, rfl, rfl⟩) (fun _ _ => rfl) r
  | 0x07, _ => exact decodeScb_reads (fun _ _ => ⟨rfl, rfl, rfl⟩) (fun _ _ => rfl) r
  | 0x08, _ =>
    refine byteField.inv (P := MainReads _) .more fun b1 r' hr => hr ▸ ?_
    split
    next h =>
      have hb : b1 = byteOf (0x10 + (b1.extractLsb' 0 4).toNat) := eq_byteOf (by
        rw [BitVec.extractLsb'_toNat, Nat.shiftRight_zero]
        omega)
      exact .ok ⟨rfl, rfl, rfl⟩ (congrArg (0x08#8 :: · :: r') hb)
    next => exact .reserved r'
  | 0x09, _ | 0x0B, _ | 0x16, _ | 0x1B, _ => exact .reserved r
  | 0x0A, _ => exact .ok ⟨rfl, rfl, rfl⟩ rfl
  | 0x0C, _ => exact .specifier wordField (pre := [0x0C#8]) (fun _ => rfl) r
  | 0x0D, _ => exact .specifier byteField (pre := [0x0D#8]) (fun _ => rfl) r
  | 0x0E, _ => exact .field byteField (pre := [0x0E#8]) (fun _ => ⟨rfl, rfl, rfl⟩) (fun _ => rfl) r
  | 0x0F, _ => exact .ok ⟨rfl, rfl, rfl⟩ rfl
  | 0x10, _ => exact .field wordField (pre := [0x10#8]) (fun _ => ⟨rfl, rfl, rfl⟩) (fun _ => rfl) r
  | 0x11, _ => exact byteField.inv (P := MainReads _) .more fun b1 r' hr => hr ▸ decode11_reads b1 r'
  | 0x12, _ => exact .field byteField (pre := [0x12#8]) (fun _ => ⟨rfl, rfl, rfl⟩) (fun _ => rfl) r
  | 0x13, _ =>
    refine byteField.inv (P := MainReads _) .more fun p r' hr => hr ▸ ?_
    exact .field wordField (pre := [0x13#8, p]) (fun _ => ⟨rfl, rfl, rfl⟩) (fun _ => rfl) r'
  | 0x14, _ => exact .field byteField (pre := [0x14#8]) (fun _ => ⟨rfl, rfl, rfl⟩) (fun _ => rfl) r
  | 0x15, _ => exact .specifier wordField (pre := [0x15#8]) (fun _ => rfl) r
  | 0x17, _ => exact .field byteField (pre := [0x17#8]) (fun _ => ⟨rfl, rfl, rfl⟩) (fun _ => rfl) r
  | 0x18, _ => exact .field wordField (pre := [0x18#8]) (fun _ => ⟨rfl, rfl, rfl⟩) (fun _ => rfl) r
  | 0x19, _ => exact .ok ⟨rfl, rfl, rfl⟩ rfl
  | 0x1A, _ => exact .ok ⟨rfl, rfl, rfl⟩ rfl
  | 0x1C, _ => exact .field wordField (pre := [0x1C#8]) (f := fun v => .rtd (.i16 v)) (fun _ => ⟨rfl, rfl, rfl⟩) (fun _ => rfl) r
  | 0x1D, _ => exact .specifier wordField (pre := [0x1D#8]) (fun _ => rfl) r
  | 0x1E, _ => exact .field wordField (pre := [0x1E#8]) (f := fun d => .bsr (.d16 d)) (fun _ => ⟨rfl, rfl, rfl⟩) (fun _ => rfl) r
  | 0x1F, _ => exact .field wordField (pre := [0x1F#8]) (f := fun v => .link (.i16 v)) (fun _ => ⟨rfl, rfl, rfl⟩) (fun _ => rfl) r
  | _ + 0x20, hk => exact absurd hk (by omega)

/-- A condition number is a branch of its own (R300). -/
theorem isMain_encode_bccOf {cc : Nat} (hcc : cc < 16) (d : Disp) :
    IsMain (bccOf cc d) ∧ encode (bccOf cc d) = encodeBcc cc d := by
  interval_cases cc <;> exact ⟨⟨rfl, rfl, rfl⟩, rfl⟩

theorem bit3_add_toNat_lt (sz : Size) (n : Reg) : sz.bit3 + n.toNat < 16 := by
  cases sz <;> cases n <;> decide

theorem decodeFirst_reads (b0 : Byte) (r : List Byte) : MainReads (b0 :: r) (decodeFirst b0 r) := by
  have hfields := eq_byteOf_fields (b := b0) rfl
  have hlow : b0.toNat % 16 = b0.size.bit3 + b0.reg.toNat := by
    rw [bit3_size, toNat_reg]
    omega
  have hk : b0.toNat / 16 < 16 := by omega
  unfold decodeFirst
  rw [hlow]
  generalize b0.size = sz, b0.reg = n, b0.toNat / 16 = k at hfields hk ⊢
  have hcc := bit3_add_toNat_lt sz n
  subst hfields
  match k, hk with
  | 0x0, _ => exact decodeLow_reads (by omega) r
  | 0x1, _ => exact decodeLow_reads (by omega) r
  | 0x2, _ =>
    exact .field byteField (pre := [_]) (fun d => (isMain_encode_bccOf hcc (.d8 d)).1)
      (fun d => (isMain_encode_bccOf hcc (.d8 d)).2.trans (by rw [Nat.add_assoc]; rfl)) r
  | 0x3, _ =>
    exact .field wordField (pre := [_]) (fun d => (isMain_encode_bccOf hcc (.d16 d)).1)
      (fun d => (isMain_encode_bccOf hcc (.d16 d)).2.trans (by rw [Nat.add_assoc]; rfl)) r
  | 0x4, _ =>
    cases sz with
    | byte => exact .field byteField (pre := [_]) (fun _ => ⟨rfl, rfl, rfl⟩) (fun _ => rfl) r
    | word => exact .field wordField (pre := [_]) (f := fun v => .cmpI v n) (fun _ => ⟨rfl, rfl, rfl⟩) (fun _ => rfl) r
  | 0x5, _ =>
    cases sz with
    | byte => exact .field byteField (pre := [_]) (fun _ => ⟨rfl, rfl, rfl⟩) (fun _ => rfl) r
    | word => exact .field wordField (pre := [_]) (f := fun v => .movI v n) (fun _ => ⟨rfl, rfl, rfl⟩) (fun _ => rfl) r
  | 0x6, _ | 0x7, _ | 0x8, _ | 0x9, _ =>
    exact .field byteField (pre := [_]) (fun _ => ⟨rfl, rfl, rfl⟩) (fun _ => rfl) r
  | 0xA, _ => exact decodeGeneral_reads (.reg sz n) r
  | 0xB, _ => exact decodeGeneral_reads (.preDec sz n) r
  | 0xC, _ => exact decodeGeneral_reads (.postInc sz n) r
  | 0xD, _ => exact decodeGeneral_reads (.ind sz n) r
  | 0xE, _ => exact .specifier byteField (pre := [_]) (fun _ => rfl) r
  | 0xF, _ => exact .specifier wordField (pre := [_]) (fun _ => rfl) r
  | _ + 0x10, hk => exact absurd hk (by omega)

theorem decode_reads (bs : List Byte) : MainReads bs (decode bs) :=
  byteField.inv (P := MainReads bs) .more fun b0 r hbytes => hbytes ▸ decodeFirst_reads b0 r

end Sys2Proof.Machine
end

section
/-! Proofs. What the decoder of SUB8 answers: a reserved opcode, or the instruction whose encoding it read (R405 to R477). -/

namespace Sys2Proof.Machine

/-- An instruction of SUB8 that has an encoding. -/
structure IsSub (i : Instr) : Prop where
  wf : i.wf = true
  sub : i.isSub8 = true

/-- What an opcode byte and the bytes `r` after it may be for the decoder of SUB8: the opcode is refused exactly where it is
none. -/
inductive SubReads (op : Byte) (r : List Byte) : Decoded → Prop
  | more (hop : isSubOpcode op = true) : SubReads op r .more
  | reserved (hop : isSubOpcode op = false) : SubReads op r (.reserved r)
  | ok {i r'} (hop : isSubOpcode op = true) (hi : IsSub i) (hbytes : op :: r = encode i ++ r') : SubReads op r (.ok i r')

/-! ## The admitted opcodes -/

/-- The low five bits of the bit families (R465 to R468). -/
def bitFamilies : List Nat := [0x03, 0x07, 0x13, 0x17, 0x0B, 0x0F, 0x1B, 0x1F]

/-- The opcodes outside the bit families (R470). -/
def plainSubOpcodes : List Nat := subOpcodesLoads ++ subOpcodesArith ++ subOpcodesLogic ++ subOpcodesControl

variable {op : Byte} {r : List Byte}

theorem isSubOpcode_iff : isSubOpcode op = true ↔ op.toNat % 0x20 ∈ bitFamilies ∨ op.toNat ∈ plainSubOpcodes := by
  rw [isSubOpcode, Bool.or_eq_true, List.contains_iff_mem, List.contains_iff_mem]
  rfl

/-- The decoder's tables, and the four opcodes it names alone, have the opcode. -/
def subTabled (n : Nat) : Bool :=
  (subImpliedRows.lookup n).isSome || (subBranchRows.lookup n).isSome || (findMode n subModeRows).isSome ||
    [0x3C, 0x4C, 0x6C, 0x20].contains n

theorem subTabled_of_mem {n : Nat} (h : n ∈ plainSubOpcodes) : subTabled n = true := by
  have hloads : ∀ n ∈ subOpcodesLoads, subTabled n = true := by decide
  have harith : ∀ n ∈ subOpcodesArith, subTabled n = true := by decide
  have hlogic : ∀ n ∈ subOpcodesLogic, subTabled n = true := by decide
  have hcontrol : ∀ n ∈ subOpcodesControl, subTabled n = true := by decide
  simp only [plainSubOpcodes, List.mem_append] at h
  obtain ((h | h) | h) | h := h
  · exact hloads n h
  · exact harith n h
  · exact hlogic n h
  · exact hcontrol n h

/-! ## The tables -/

theorem subImpliedRows_encode : ∀ row ∈ subImpliedRows,
    row.1 ∈ plainSubOpcodes ∧ IsSub row.2 ∧ encode row.2 = [byteOf row.1] := by
  have h : ∀ row ∈ subImpliedRows, row.1 ∈ plainSubOpcodes ∧ (row.2.wf = true ∧ row.2.isSub8 = true) ∧
      encode row.2 = [byteOf row.1] := by decide
  intro row hrow
  obtain ⟨hop, ⟨hwf, hsub⟩, hencode⟩ := h row hrow
  exact ⟨hop, ⟨hwf, hsub⟩, hencode⟩

theorem subBranchRows_encode : ∀ row ∈ subBranchRows,
    row.1 ∈ plainSubOpcodes ∧ ∀ d, IsSub (row.2 d) ∧ encode (row.2 d) = [byteOf row.1, d] := by
  simp only [subBranchRows, List.forall_mem_cons]
  refine ⟨?_, ?_, ?_, ?_, ?_, ?_, ?_, ?_, ?_, List.forall_mem_nil _⟩ <;>
    exact ⟨by decide, fun _ => ⟨⟨rfl, rfl⟩, rfl⟩⟩

/-- A mnemonic with its table of opcodes: the modes of the table are those the instruction has (R405). -/
structure SubModeRowOk (row : SubModeRow) : Prop where
  opcodes : ∀ p ∈ row.1, p.1 ∈ plainSubOpcodes
  kinds : (row.1.map Prod.snd).Nodup
  wf : ∀ m, (row.2 m).wf = (row.1.map Prod.snd).contains m.kind
  sub : ∀ m, (row.2 m).isSub8 = true
  encodes : ∀ m, encode (row.2 m) = encodeMode row.1 m

theorem subModeRows_ok : ∀ row ∈ subModeRows, SubModeRowOk row := by
  refine List.forall_mem_append.mpr ⟨?moves, List.forall_mem_append.mpr ⟨?arith, ?logic⟩⟩
  case moves =>
    simp only [subMoveRows, List.forall_mem_cons]
    refine ⟨?_, ?_, ?_, ?_, ?_, ?_, List.forall_mem_nil _⟩ <;>
      exact ⟨by decide, by decide, fun m => by cases m <;> rfl, fun _ => rfl, fun _ => rfl⟩
  case arith =>
    simp only [subArithRows, List.forall_mem_cons]
    refine ⟨?_, ?_, ?_, ?_, ?_, ?_, ?_, List.forall_mem_nil _⟩ <;>
      exact ⟨by decide, by decide, fun m => by cases m <;> rfl, fun _ => rfl, fun _ => rfl⟩
  case logic =>
    simp only [subLogicRows, List.forall_mem_cons]
    refine ⟨?_, ?_, ?_, ?_, ?_, ?_, ?_, ?_, List.forall_mem_nil _⟩ <;>
      exact ⟨by decide, by decide, fun m => by cases m <;> rfl, fun _ => rfl, fun _ => rfl⟩

theorem mem_of_lookup {α : Type} {n : Nat} {v : α} {l : List (Nat × α)} (h : l.lookup n = some v) : (n, v) ∈ l := by
  obtain ⟨l₁, l₂, rfl, -⟩ := List.lookup_eq_some_iff.mp h
  exact List.mem_append_right l₁ List.mem_cons_self

theorem mem_of_findMode {n : Nat} {kind : SubKind} {f : SubMode → Instr} :
    ∀ {rows : List SubModeRow}, findMode n rows = some (kind, f) → ∃ ops, (ops, f) ∈ rows ∧ (n, kind) ∈ ops
  | [], h => by cases h
  | (ops, g) :: rows, h => by
    rw [findMode] at h
    split at h
    next hlookup =>
      cases h
      exact ⟨ops, List.mem_cons_self, mem_of_lookup hlookup⟩
    next =>
      obtain ⟨ops', hrow, hop⟩ := mem_of_findMode h
      exact ⟨ops', List.mem_cons_of_mem _ hrow, hop⟩

/-- A mode stands once in a table, so its opcode is the one it stands with. -/
theorem opcodeOf_eq {n : Nat} {kind : SubKind} : ∀ {ops : SubOps}, (ops.map Prod.snd).Nodup → (n, kind) ∈ ops →
    opcodeOf ops kind = n
  | (n', kind') :: ops, hkinds, h => by
    obtain ⟨hfirst, hrest⟩ := List.nodup_cons.mp hkinds
    rw [opcodeOf]
    cases h with
    | head => exact if_pos rfl
    | tail _ h =>
      have hkind : kind ∈ ops.map Prod.snd := List.mem_map_of_mem h
      exact (if_neg fun heq : kind' = kind => hfirst (heq ▸ hkind)).trans (opcodeOf_eq hrest h)

/-! ## The fields -/

/-- An instruction of which all bytes but a last field are read. -/
theorem SubReads.field {α : Type} {need : List Byte → (α → List Byte → Decoded) → Decoded} {bytes : α → List Byte}
    (hop : isSubOpcode op = true) (hfield : IsField need bytes) {pre r₀ : List Byte} (hr : op :: r = pre ++ r₀)
    {f : α → Instr} (hi : ∀ v, IsSub (f v)) (hencode : ∀ v, encode (f v) = pre ++ bytes v) :
    SubReads op r (need r₀ fun v r' => .ok (f v) r') :=
  hfield.inv (.more hop) fun v r' hr' => .ok hop (hi v) (by rw [hr, hr', hencode, List.append_assoc])

/-- The operand bytes of a mode (R405). -/
theorem needMode_inv {P : Decoded → Prop} {kind : SubKind} {k : SubMode → List Byte → Decoded} (hmore : P .more)
    (h : ∀ m r', m.kind = kind → r = m.bytes ++ r' → P (k m r')) : P (needMode kind r k) := by
  cases kind with
  | acc => exact h .acc r rfl rfl
  | imm => exact byteField.inv hmore fun n r' hr => h (.imm n) r' rfl hr
  | zp => exact byteField.inv hmore fun z r' hr => h (.zp z) r' rfl hr
  | zpx => exact byteField.inv hmore fun z r' hr => h (.zpx z) r' rfl hr
  | zpy => exact byteField.inv hmore fun z r' hr => h (.zpy z) r' rfl hr
  | abs => exact subWordField.inv hmore fun a r' hr => h (.abs a) r' rfl hr
  | absx => exact subWordField.inv hmore fun a r' hr => h (.absx a) r' rfl hr
  | absy => exact subWordField.inv hmore fun a r' hr => h (.absy a) r' rfl hr
  | indy => exact byteField.inv hmore fun z r' hr => h (.indy z) r' rfl hr

/-! ## The decoder -/

theorem decodeSubPlain_reads (hbit : op.toNat % 0x20 ∉ bitFamilies) : SubReads op r (decodeSubPlain op.toNat r) := by
  have hadmitted (h : op.toNat ∈ plainSubOpcodes) : isSubOpcode op = true := isSubOpcode_iff.mpr (.inr h)
  have hbyte : byteOf op.toNat = op := (eq_byteOf rfl).symm
  unfold decodeSubPlain
  split
  next i himplied =>
    obtain ⟨hop, hi, hencode⟩ := subImpliedRows_encode _ (mem_of_lookup himplied)
    exact .ok (hadmitted hop) hi (by rw [hencode, hbyte]; rfl)
  next himplied =>
  split
  next f hbranch =>
    obtain ⟨hop, hf⟩ := subBranchRows_encode _ (mem_of_lookup hbranch)
    exact .field (hadmitted hop) byteField (pre := [op]) rfl (fun d => (hf d).1)
      (fun d => (hf d).2.trans (by rw [hbyte]; rfl))
  next hbranch =>
  split
  next kind f hmode =>
    obtain ⟨ops, hrow, hmem⟩ := mem_of_findMode hmode
    have hok := subModeRows_ok _ hrow
    have hop := hadmitted (hok.opcodes _ hmem)
    refine needMode_inv (.more hop) fun m r' hkind hr => ?_
    subst hkind
    refine .ok hop ⟨(hok.wf m).trans ?_, hok.sub m⟩ ?_
    · exact List.contains_iff_mem.mpr (List.mem_map_of_mem hmem)
    · rw [hok.encodes, encodeMode, opcodeOf_eq hok.kinds hmem, hbyte, hr]
      rfl
  next hmode =>
  split
  next h =>
    obtain rfl := eq_byteOf h
    have hop := hadmitted (by decide)
    refine byteField.inv (P := SubReads _ r) (.more hop) fun n r' hr => ?_
    exact .field hop byteField (pre := [0x3C#8, n]) (by rw [hr]; rfl) (fun _ => ⟨rfl, rfl⟩) (fun _ => rfl)
  next h =>
    obtain rfl := eq_byteOf h
    exact .field (hadmitted (by decide)) subWordField (pre := [0x4C#8]) rfl (fun _ => ⟨rfl, rfl⟩) (fun _ => rfl)
  next h =>
    obtain rfl := eq_byteOf h
    exact .field (hadmitted (by decide)) subWordField (pre := [0x6C#8]) rfl (fun _ => ⟨rfl, rfl⟩) (fun _ => rfl)
  next h =>
    obtain rfl := eq_byteOf h
    exact .field (hadmitted (by decide)) subWordField (pre := [0x20#8]) rfl (fun _ => ⟨rfl, rfl⟩) (fun _ => rfl)
  next hldm hjmp hjmpInd hjsr =>
    refine .reserved (Bool.eq_false_iff.mpr fun hop => ?_)
    have htabled := subTabled_of_mem ((isSubOpcode_iff.mp hop).resolve_left hbit)
    simp only [subTabled, himplied, hbranch, hmode, Option.isSome_none, Bool.false_or, List.contains_iff_mem,
      List.mem_cons, List.not_mem_nil, or_false] at htabled
    obtain h | h | h | h := htabled
    exacts [hldm h, hjmp h, hjmpInd h, hjsr h]

/-- A byte by its low five bits and the number above them (R465). -/
theorem eq_byteOf_family {k : Nat} (h : op.toNat % 32 = k) : op = byteOf ((op.extractLsb' 5 3).toNat * 32 + k) := by
  apply eq_byteOf
  rw [BitVec.extractLsb'_toNat, Nat.shiftRight_eq_div_pow]
  omega

theorem decodeSubFirst_reads (op : Byte) (r : List Byte) : SubReads op r (decodeSubFirst op r) := by
  have hadmitted {k : Nat} (h : op.toNat % 32 = k) (hk : k ∈ bitFamilies) : isSubOpcode op = true :=
    isSubOpcode_iff.mpr (.inl (h ▸ hk))
  unfold decodeSubFirst
  dsimp only
  split
  next h =>
    exact .field (hadmitted h (by decide)) byteField (pre := [op]) rfl (fun _ => ⟨rfl, rfl⟩)
      (f := fun d => .s8Bbs _ .acc d) (fun d => congrArg (· :: [d]) (eq_byteOf_family h).symm)
  next h =>
    have hop := hadmitted h (by decide)
    refine byteField.inv (P := SubReads op r) (.more hop) fun z r' hr => ?_
    exact .field hop byteField (pre := [op, z]) (by rw [hr]; rfl) (fun _ => ⟨rfl, rfl⟩)
      (f := fun d => .s8Bbs _ (.zp z) d) (fun d => congrArg (· :: [z, d]) (eq_byteOf_family h).symm)
  next h =>
    exact .field (hadmitted h (by decide)) byteField (pre := [op]) rfl (fun _ => ⟨rfl, rfl⟩)
      (f := fun d => .s8Bbc _ .acc d) (fun d => congrArg (· :: [d]) (eq_byteOf_family h).symm)
  next h =>
    have hop := hadmitted h (by decide)
    refine byteField.inv (P := SubReads op r) (.more hop) fun z r' hr => ?_
    exact .field hop byteField (pre := [op, z]) (by rw [hr]; rfl) (fun _ => ⟨rfl, rfl⟩)
      (f := fun d => .s8Bbc _ (.zp z) d) (fun d => congrArg (· :: [z, d]) (eq_byteOf_family h).symm)
  next h => exact .ok (hadmitted h (by decide)) ⟨rfl, rfl⟩ (congrArg (· :: r) (eq_byteOf_family h))
  next h =>
    exact .field (hadmitted h (by decide)) byteField (pre := [op]) rfl (fun _ => ⟨rfl, rfl⟩)
      (f := fun z => .s8Seb _ (.zp z)) (fun z => congrArg (· :: [z]) (eq_byteOf_family h).symm)
  next h => exact .ok (hadmitted h (by decide)) ⟨rfl, rfl⟩ (congrArg (· :: r) (eq_byteOf_family h))
  next h =>
    exact .field (hadmitted h (by decide)) byteField (pre := [op]) rfl (fun _ => ⟨rfl, rfl⟩)
      (f := fun z => .s8Clb _ (.zp z)) (fun z => congrArg (· :: [z]) (eq_byteOf_family h).symm)
  next =>
    refine decodeSubPlain_reads fun hbit => ?_
    simp only [bitFamilies, List.mem_cons, List.not_mem_nil, or_false] at hbit
    obtain h | h | h | h | h | h | h | h := hbit <;> contradiction

end Sys2Proof.Machine
end

section
/-! Proofs. Both decoders accept what exists and nothing else (R116 to R120, R130, R131, R350, R470). -/

namespace Sys2Proof.Machine

variable {r : List Byte}

/-- The second bytes that R130 reserves after 0x11, with `PJMP @R7` and `PJSR @R7` (R131). -/
theorem decode11_reserved {b1 : Byte} (hshort : b1 ∉ [0x14#8, 0x19#8, 0x1C#8])
    (h : b1.toNat < 0xC0 ∨ b1 = 0xC7#8 ∨ b1 = 0xCF#8) : decode11 b1 r = .reserved r := by
  obtain h | rfl | rfl := h
  case inr.inl => rfl
  case inr.inr => rfl
  have hne {k : Nat} (hk : byteOf k ∈ [0x14#8, 0x19#8, 0x1C#8]) : b1.toNat ≠ k := fun heq => hshort (eq_byteOf heq ▸ hk)
  have h14 := hne (k := 0x14) (by decide)
  have h19 := hne (k := 0x19) (by decide)
  have h1C := hne (k := 0x1C) (by decide)
  unfold decode11
  dsimp only
  split
  iterate 8 next hrow => omega
  split
  iterate 3 contradiction
  rfl

theorem decodeScb_reserved {f : Reg → Byte → Instr} {b1 : Byte} (h : b1.toNat < 0xB8 ∨ 0xBF < b1.toNat) :
    decodeScb f (b1 :: r) = .reserved r := if_neg (by omega)

theorem decode_op_reserved {ea : EA} {op : Byte} (h : admitsOp ea op = false) :
    decode (ea.encode ++ op :: r) = .reservedOp ea.toInstr r := by
  rw [decode_specifier]
  change decodeOp ea op r = _
  have hreads := decodeOp_reads ea op r
  generalize decodeOp ea op r = d at hreads ⊢
  cases hreads with
  | reservedOp => rfl
  | more hop | ok hop => cases hop.symm.trans h

theorem decode_op_admitted {ea : EA} {op : Byte} (h : admitsOp ea op = true) (i : Instr) (r' : List Byte) :
    decode (ea.encode ++ op :: r) ≠ .reservedOp i r' := by
  rw [decode_specifier]
  intro hd
  have hreads : OpReads ea op r (.reservedOp i r') := hd ▸ decodeOp_reads ea op r
  cases hreads with
  | reservedOp hop => cases hop.symm.trans h

theorem decodeSub_reserved {op : Byte} (h : isSubOpcode op = false) : decodeSub (op :: r) = .reserved r := by
  change decodeSubFirst op r = _
  have hreads := decodeSubFirst_reads op r
  generalize decodeSubFirst op r = d at hreads ⊢
  cases hreads with
  | reserved => rfl
  | more hop | ok hop => cases hop.symm.trans h

theorem decodeSub_admitted {op : Byte} (h : isSubOpcode op = true) (r' : List Byte) :
    decodeSub (op :: r) ≠ .reserved r' := by
  intro hd
  have hreads : SubReads op r (.reserved r') := hd ▸ decodeSubFirst_reads op r
  cases hreads with
  | reserved hop => cases hop.symm.trans h

theorem decode_ok {bs : List Byte} {i : Instr} (h : decode bs = .ok i r) : IsMain i ∧ bs = encode i ++ r := by
  have hreads : MainReads bs (.ok i r) := h ▸ decode_reads bs
  cases hreads with
  | ok hi hbytes => exact ⟨hi, hbytes⟩

theorem decode_reservedOp {bs : List Byte} {i : Instr} (h : decode bs = .reservedOp i r) :
    ∃ (ea : EA) (op : Byte), i = ea.toInstr ∧ admitsOp ea op = false ∧ bs = ea.encode ++ op :: r := by
  have hreads : MainReads bs (.reservedOp i r) := h ▸ decode_reads bs
  cases hreads with
  | reservedOp hop hbytes => exact ⟨_, _, rfl, hop, hbytes⟩

/-- The decoder of SUB8 answers with an instruction whose encoding it read, or with none. -/
theorem decodeSub_ok {bs : List Byte} {i : Instr} (h : decodeSub bs = .ok i r) : IsSub i ∧ bs = encode i ++ r := by
  cases bs with
  | nil => cases h
  | cons op bs =>
    have hreads : SubReads op bs (.ok i r) := h ▸ decodeSubFirst_reads op bs
    cases hreads with
    | ok _ hi hbytes => exact ⟨hi, hbytes⟩

theorem decodeSub_ne_reservedOp (bs : List Byte) (i : Instr) : decodeSub bs ≠ .reservedOp i r := by
  intro h
  cases bs with
  | nil => cases h
  | cons op bs =>
    have hreads : SubReads op bs (.reservedOp i r) := h ▸ decodeSubFirst_reads op bs
    cases hreads

/-- Settles O4: refusals by `decode_op_reserved`, `decodeSub_reserved` and the decoder's own branches, the converse round
trip by `decode_ok`, `decode_reservedOp` and `decodeSub_ok`. -/
theorem decodersAdmitWhatExists : Obligations.DecodersAdmitWhatExists := by
  refine fun rest => ⟨?first, fun b1 => decode11_reserved, ?scb, fun b1 h => if_neg (by omega), fun ea op =>
    ⟨decode_op_reserved, decode_op_admitted⟩, fun op => ⟨decodeSub_reserved, decodeSub_admitted⟩, fun bs i =>
    ⟨fun h => ?ok, decode_reservedOp, fun h => ?subOk, decodeSub_ne_reservedOp bs i⟩⟩
  case first =>
    simp only [List.forall_mem_cons]
    exact ⟨rfl, rfl, rfl, rfl, List.forall_mem_nil _⟩
  case scb =>
    simp only [List.forall_mem_cons]
    exact ⟨fun _ => decodeScb_reserved, fun _ => decodeScb_reserved, fun _ => decodeScb_reserved, List.forall_mem_nil _⟩
  case ok =>
    obtain ⟨⟨hwf, hmain, hwhole⟩, hbytes⟩ := decode_ok h
    exact ⟨hwf, hmain, hwhole, hbytes⟩
  case subOk =>
    obtain ⟨⟨hwf, hsub⟩, hbytes⟩ := decodeSub_ok h
    exact ⟨hwf, hsub, hbytes⟩

end Sys2Proof.Machine
end

section
/-! Proofs. What the step does with a reserved encoding (R132, R151, R470, R505, R542). -/

namespace Sys2Proof.Machine

/-- The slot after InvalidInstruction is requested, and Trace behind it where SR.T is 1 (R151, R505, R542). -/
theorem traceTest_requestInvalid (s : State) : traceTest (requestException .invalidInstruction s) =
    { s with cpu.excSlot :=
      if s.srT = true then slotAfter .trace (slotAfter .invalidInstruction s.cpu.excSlot)
      else slotAfter .invalidInstruction s.cpu.excSlot } := by
  have hsrT : (requestException .invalidInstruction s).srT = s.srT := rfl
  rw [traceTest, hsrT]
  split <;> rfl

/-- A specifier run alone is resolved and does nothing more (R132, R161 to R169). -/
theorem exec_toInstr (ea : EA) (s : State) : exec ea.toInstr s = .next (resolveEA ea s).2 := by cases ea <;> rfl

theorem resolveEA_sameButRegs (ea : EA) (s : State) :
    (resolveEA ea s).2 = { s with cpu.regs := (resolveEA ea s).2.cpu.regs } := by cases ea <;> rfl

/-- A specifier changes the register it steps and no other (R164, R166). -/
theorem resolveEA_steppedRegs (ea : EA) (s : State) : SteppedRegs ea [] s (resolveEA ea s).2 := by
  refine ⟨fun m _ hm => ?_, fun _ _ _ => rfl⟩
  cases ea with
  | preDec sz n | postInc sz n => exact reg_setReg_other s n m _ fun h => hm (congrArg some h.symm)
  | reg | ind | disp8 | disp16 | abs8 | abs16 | imm8 | imm16 => rfl

/-- Settles O7: a reserved operation keeps what `exec_toInstr` did, and the requests are those of
`traceTest_requestInvalid`. -/
theorem reservedEncodingStep : Obligations.ReservedEncodingStep := by
  refine ⟨fun s s1 rest hfetch => ?reserved, fun s s1 ea rest hfetch => ?operation, fun s s1 rest hphase hfetch => ?sub⟩
  case reserved =>
    rw [executeInstruction, hfetch]
    exact congrArg _ (traceTest_requestInvalid s1)
  case operation =>
    have hstep : executeInstruction s =
        .next (traceTest (requestException .invalidInstruction (resolveEA ea s1).2)) := by
      rw [executeInstruction, hfetch, runDecoded, exec_toInstr]
    rw [traceTest_requestInvalid, State.srT, resolveEA_sr, resolveEA_excSlot] at hstep
    refine ⟨_, hstep, resolveEA_steppedRegs ea s1, ?_, rfl⟩
    rw [resolveEA_sameButRegs]
  case sub =>
    rw [step, quantumStep, hphase]
    change subInstructionPart (subInterruptCheck (subDevUpdate s)) = _
    rw [subInstructionPart, hfetch]
    rfl

end Sys2Proof.Machine
end

section
/-! Proofs. SUB8: what the encoder writes the decoder reads back (R405 to R477). -/

namespace Sys2Proof.Machine

/-- An opcode of the table of modes asks for the operand bytes of its mode (R405). -/
theorem decodeSub_subModeRows : ∀ row ∈ subModeRows, ∀ p ∈ row.1, ∀ r,
    decodeSub (byteOf p.1 :: r) = needMode p.2 r fun m r => .ok (row.2 m) r := by
  refine List.forall_mem_append.mpr ⟨?moves, List.forall_mem_append.mpr ⟨?arith, ?logic⟩⟩
  case moves =>
    simp only [subMoveRows, ldaOps, ldxOps, ldyOps, staOps, stxOps, styOps, List.forall_mem_cons,
      List.not_mem_nil, false_implies, implies_true, and_true]
    and_intros <;> exact fun _ => rfl
  case arith =>
    simp only [subArithRows, adcOps, sbcOps, cmpOps, cpxOps, cpyOps, incOps, decOps, List.forall_mem_cons,
      List.not_mem_nil, false_implies, implies_true, and_true]
    and_intros <;> exact fun _ => rfl
  case logic =>
    simp only [subLogicRows, andOps, oraOps, eorOps, bitOps, aslOps, lsrOps, rolOps, rorOps, List.forall_mem_cons,
      List.not_mem_nil, false_implies, implies_true, and_true]
    and_intros <;> exact fun _ => rfl

/-- The operand bytes of a mode read back (R405). -/
theorem needMode_bytes (m : SubMode) (r : List Byte) (k : SubMode → List Byte → Decoded) :
    needMode m.kind (m.bytes ++ r) k = k m r := by
  cases m with
  | acc | imm | zp | zpx | zpy | indy => rfl
  | abs a => exact needSub2_leBytes a r fun a r => k (.abs a) r
  | absx a => exact needSub2_leBytes a r fun a r => k (.absx a) r
  | absy a => exact needSub2_leBytes a r fun a r => k (.absy a) r

theorem mem_opcodeOf {kind : SubKind} : ∀ {ops : SubOps}, kind ∈ ops.map Prod.snd → (opcodeOf ops kind, kind) ∈ ops
  | (n, kind') :: ops, h => by
    rw [opcodeOf]
    split
    next heq => exact heq ▸ List.mem_cons_self
    next hne => exact List.mem_cons_of_mem _ (mem_opcodeOf ((List.mem_cons.mp h).resolve_left (Ne.symm hne)))

/-- An instruction with an addressing mode reads back. -/
theorem decodeSub_encodeMode {ops : SubOps} {f : SubMode → Instr} (n : Nat) (hrow : subModeRows[n]? = some (ops, f))
    {m : SubMode} (hwf : (f m).wf = true) (r : List Byte) : decodeSub (encode (f m) ++ r) = .ok (f m) r := by
  have hmem := List.mem_of_getElem? hrow
  have hok := subModeRows_ok _ hmem
  have hkind : m.kind ∈ ops.map Prod.snd := List.contains_iff_mem.mp ((hok.wf m).symm.trans hwf)
  calc decodeSub (encode (f m) ++ r)
    _ = decodeSub (byteOf (opcodeOf ops m.kind) :: (m.bytes ++ r)) := by rw [hok.encodes, encodeMode]; rfl
    _ = needMode m.kind (m.bytes ++ r) (fun m r => .ok (f m) r) :=
      decodeSub_subModeRows _ hmem _ (mem_opcodeOf hkind) _
    _ = .ok (f m) r := needMode_bytes m r _

/-- The eight bit numbers of the bit families. -/
theorem bitIndex_cases {P : BitVec 3 → Prop} (h : ∀ n : Reg, P (BitVec.ofNat 3 n.toNat)) (i : BitVec 3) : P i := by
  have := h (Reg.ofBits i)
  rwa [toNat_ofBits, BitVec.ofNat_toNat, BitVec.setWidth_eq] at this

theorem decodeSub_encode (i : Instr) (r : List Byte) (hwf : i.wf = true) (hsub : i.isSub8 = true) :
    decodeSub (encode i ++ r) = .ok i r := by
  cases i with
  -- the instructions with an addressing mode, by their place in the table
  | s8Lda m => exact decodeSub_encodeMode 0 rfl hwf r
  | s8Ldx m => exact decodeSub_encodeMode 1 rfl hwf r
  | s8Ldy m => exact decodeSub_encodeMode 2 rfl hwf r
  | s8Sta m => exact decodeSub_encodeMode 3 rfl hwf r
  | s8Stx m => exact decodeSub_encodeMode 4 rfl hwf r
  | s8Sty m => exact decodeSub_encodeMode 5 rfl hwf r
  | s8Adc m => exact decodeSub_encodeMode 6 rfl hwf r
  | s8Sbc m => exact decodeSub_encodeMode 7 rfl hwf r
  | s8Cmp m => exact decodeSub_encodeMode 8 rfl hwf r
  | s8Cpx m => exact decodeSub_encodeMode 9 rfl hwf r
  | s8Cpy m => exact decodeSub_encodeMode 10 rfl hwf r
  | s8Inc m => exact decodeSub_encodeMode 11 rfl hwf r
  | s8Dec m => exact decodeSub_encodeMode 12 rfl hwf r
  | s8And m => exact decodeSub_encodeMode 13 rfl hwf r
  | s8Ora m => exact decodeSub_encodeMode 14 rfl hwf r
  | s8Eor m => exact decodeSub_encodeMode 15 rfl hwf r
  | s8Bit m => exact decodeSub_encodeMode 16 rfl hwf r
  | s8Asl m => exact decodeSub_encodeMode 17 rfl hwf r
  | s8Lsr m => exact decodeSub_encodeMode 18 rfl hwf r
  | s8Rol m => exact decodeSub_encodeMode 19 rfl hwf r
  | s8Ror m => exact decodeSub_encodeMode 20 rfl hwf r
  -- the bit families
  | s8Bbs b o d | s8Bbc b o d =>
    cases b using bitIndex_cases with
    | _ n => cases o <;> cases n <;> rfl
  | s8Seb b o | s8Clb b o =>
    cases b using bitIndex_cases with
    | _ n => cases o <;> cases n <;> rfl
  -- absolute addresses
  | s8JmpAbs a => exact ok_ofBytes_hi_lo .s8JmpAbs a r
  | s8JmpInd a => exact ok_ofBytes_hi_lo .s8JmpInd a r
  | s8Jsr a => exact ok_ofBytes_hi_lo .s8Jsr a r
  -- no operand, a relative branch, LDM
  | s8Tax | s8Txa | s8Tay | s8Tya | s8Tsx | s8Txs | s8Pha | s8Pla | s8Php | s8Plp | s8Inx | s8Iny | s8Dex | s8Dey | s8Rts
  | s8Rti | s8Brk | s8Nop | s8Clc | s8Sec | s8Cli | s8Sei | s8Clv | s8Cld | s8Clt => rfl
  | s8Bpl | s8Bmi | s8Bvc | s8Bvs | s8Bcc | s8Bcs | s8Bne | s8Beq | s8Bra | s8Ldm => rfl
  | _ => cases hsub

end Sys2Proof.Machine
end

section
/-! Proofs. Both decoders read a stream: with more bytes behind those that settle an answer the answer stays (R110, R132,
R403). So a decoder asks for more after every part of an encoding, and for nothing after the whole. -/

namespace Sys2Proof.Machine

/-- An answer with the bytes `t` behind those it has not read. -/
def answerBefore (t : List Byte) : Decoded → Decoded
  | .more => .more
  | .ok i r => .ok i (r ++ t)
  | .reservedOp i r => .reservedOp i (r ++ t)
  | .reserved r => .reserved (r ++ t)

/-- A reader that does not look past the bytes that settle its answer. -/
def Streams (k : List Byte → Decoded) : Prop := ∀ r t, k r ≠ .more → k (r ++ t) = answerBefore t (k r)

/-! ## Readers -/

namespace Streams

variable {k k' : List Byte → Decoded}

theorem ok (i : Instr) : Streams (.ok i) := fun _ _ _ => rfl

theorem reserved : Streams .reserved := fun _ _ _ => rfl

theorem ite {p : Prop} [Decidable p] (h : Streams k) (h' : Streams k') : Streams fun r => if p then k r else k' r := by
  by_cases hp : p
  · simpa only [if_pos hp] using h
  · simpa only [if_neg hp] using h'

theorem need1 {k : Byte → List Byte → Decoded} (h : ∀ b, Streams (k b)) : Streams fun r => need1 r k
  | [], _, hmore => absurd rfl hmore
  | b :: r, t, hmore => h b r t hmore

theorem need2 {k : Word → List Byte → Decoded} (h : ∀ v, Streams (k v)) : Streams fun r => need2 r k :=
  .need1 fun _ => .need1 fun _ => h _

/-- Before the end of an encoding the answer is `.more`. -/
theorem more_of_ok_append (h : Streams k) {i : Instr} {bs : List Byte} {b : Byte} {t : List Byte}
    (hok : k (bs ++ b :: t) = .ok i []) : k bs = .more := by
  by_contra hmore
  rw [h bs _ hmore] at hok
  cases hd : k bs with
  | more => exact hmore hd
  | ok i' r => simp [hd, answerBefore] at hok
  | reservedOp | reserved => simp [hd, answerBefore] at hok

end Streams

/-! ## MAIN16 -/

/-- The general format, by what `decodeOp_reads` says of its answers. -/
theorem decodeGeneral_streams (ea : EA) : Streams (decodeGeneral ea) := by
  refine .need1 fun op r t hmore => ?_
  have hreads := decodeOp_reads ea op r
  have hread (r : List Byte) : decode (ea.encode ++ op :: r) = decodeOp ea op r := decode_specifier ea (op :: r)
  generalize decodeOp ea op r = d at hreads hmore
  cases hreads with
  | more => exact absurd rfl hmore
  | reservedOp hop => exact (hread _).symm.trans (decode_op_reserved hop)
  | @ok i r' _ hi hbytes =>
    calc decodeOp ea op (r ++ t)
      _ = decode (ea.encode ++ op :: r ++ t) := by rw [← hread, List.append_assoc]; rfl
      _ = decode (encode i ++ (r' ++ t)) := by rw [hbytes, List.append_assoc]
      _ = .ok i (r' ++ t) := decode_encode i _ hi.wf hi.main hi.whole

theorem decodeScb_streams (f : Reg → Byte → Instr) : Streams (decodeScb f) :=
  .need1 fun _ => .ite (.need1 fun _ => .ok _) .reserved

/-- The second byte after 0x11 (R122). -/
theorem decode11_streams (b1 : Byte) : Streams (decode11 b1) := by
  intro r t
  unfold decode11
  dsimp only
  split
  · exact Streams.ite .reserved (.ok _) r t
  · exact Streams.ite .reserved (.ok _) r t
  · exact Streams.ok _ r t
  · exact Streams.ok _ r t
  · exact Streams.need1 (fun _ => .ok _) r t
  · exact Streams.need1 (fun _ => .ok _) r t
  · exact Streams.need2 (fun _ => .ok _) r t
  · exact Streams.need2 (fun _ => .ok _) r t
  · split
    · exact Streams.need1 (fun _ => .ok _) r t
    · exact Streams.ok _ r t
    · exact Streams.need2 (fun _ => .ok _) r t
    · exact Streams.reserved r t

/-- First bytes 0x00 to 0x1F (R111, R113, R121). -/
theorem decodeLow_streams {k : Nat} (hk : k < 32) : Streams (decodeLow (byteOf k)) := by
  match k, hk with
  | 0x00, _ | 0x0A, _ | 0x0F, _ | 0x19, _ | 0x1A, _ => exact .ok _
  | 0x09, _ | 0x0B, _ | 0x16, _ | 0x1B, _ => exact .reserved
  | 0x02, _ | 0x0E, _ | 0x12, _ | 0x14, _ | 0x17, _ => exact .need1 fun _ => .ok _
  | 0x10, _ | 0x18, _ => exact .need2 fun _ => .ok _
  | 0x1C, _ => exact .need2 fun v => .ok (.rtd (.i16 v))
  | 0x1E, _ => exact .need2 fun d => .ok (.bsr (.d16 d))
  | 0x1F, _ => exact .need2 fun v => .ok (.link (.i16 v))
  | 0x03, _ | 0x13, _ => exact .need1 fun _ => .need2 fun _ => .ok _
  | 0x01, _ | 0x06, _ | 0x07, _ => exact decodeScb_streams _
  | 0x08, _ => exact .need1 fun _ => .ite (.ok _) .reserved
  | 0x11, _ => exact .need1 decode11_streams
  | 0x04, _ | 0x05, _ | 0x0D, _ => exact .need1 fun _ => decodeGeneral_streams _
  | 0x0C, _ | 0x15, _ | 0x1D, _ => exact .need2 fun _ => decodeGeneral_streams _
  | _ + 0x20, hk => exact absurd hk (by omega)

/-- The first byte, by its high four bits (R111, R113, R121). -/
theorem decodeFirst_streams (b0 : Byte) : Streams (decodeFirst b0) := by
  have hlow (h : b0.toNat < 32) : Streams (decodeLow b0) := eq_byteOf (b := b0) rfl ▸ decodeLow_streams h
  intro r t
  unfold decodeFirst
  dsimp only
  split
  · exact hlow (by omega) r t
  · exact hlow (by omega) r t
  · exact Streams.need1 (fun _ => .ok _) r t
  · exact Streams.need2 (fun _ => .ok _) r t
  · exact Streams.ite (.need1 fun _ => .ok _) (.need2 fun _ => .ok _) r t
  · exact Streams.ite (.need1 fun _ => .ok _) (.need2 fun _ => .ok _) r t
  iterate 4 exact Streams.need1 (fun _ => .ok _) r t
  iterate 4 exact decodeGeneral_streams _ r t
  · exact Streams.need1 (fun _ => decodeGeneral_streams _) r t
  · exact Streams.need2 (fun _ => decodeGeneral_streams _) r t

theorem decode_streams : Streams decode := .need1 decodeFirst_streams

/-! ## SUB8 -/

/-- By what `decodeSubFirst_reads` says of the decoder's answers. -/
theorem decodeSub_streams : Streams decodeSub := by
  refine .need1 fun op r t hmore => ?_
  have hreads := decodeSubFirst_reads op r
  generalize decodeSubFirst op r = d at hreads hmore
  cases hreads with
  | more => exact absurd rfl hmore
  | reserved hop => exact decodeSub_reserved hop
  | @ok i r' _ hi hbytes =>
    calc decodeSub (op :: r ++ t)
      _ = decodeSub (encode i ++ (r' ++ t)) := by rw [hbytes, List.append_assoc]
      _ = .ok i (r' ++ t) := decodeSub_encode i _ hi.wf hi.sub

end Sys2Proof.Machine
end

section
/-! Proofs. The parts of a step around an instruction: the trace test, the end of a quantum, the end of a sub-core turn
(R150, R151, R403, R542, R590, R591). -/

namespace Sys2Proof.Machine

variable {s t : State}

/-- Trace has the lowest priority: it fills an empty slot and no other (R505, R542). -/
theorem traceTest_eq_traced (t : State) : traceTest t = traced t := by
  unfold traceTest traced State.srT requestException
  split
  · cases t.cpu.excSlot with
    | none => rfl
    | some k => cases k <;> rfl
  · rfl

theorem subBehind_iff : s.subBehind = true ↔ SubBehind s := by
  rw [State.subBehind, Bool.and_eq_true, beq_iff_eq, decide_eq_true_iff]
  rfl

/-- The sub core has the next turn exactly where it is behind (R591), which the phase has no part in. -/
theorem setPhase_phase (s : State) : s.setPhase.model.phase = .sub ↔ SubBehind s.setPhase := by
  change (if s.subBehind = true then Phase.sub else .main) = .sub ↔ SubBehind s
  rw [← subBehind_iff]
  split <;> simp [*]

theorem quantumEnd_afterInstruction (t : State) : QuantumEnd t (afterInstruction t) := ⟨rfl, setPhase_phase _⟩

theorem subTurnEnd_afterSubInstruction (t : State) : SubTurnEnd t (afterSubInstruction t) := ⟨rfl, setPhase_phase _⟩

/-! ## The instruction that was read -/

section main

variable {i : Instr} {rest : List Byte} {s1 : State} (hfetch : fetchMain maxLength [] s = (.ok i rest, s1))
include hfetch

theorem executeInstruction_next (hexec : exec i s1 = .next t) : executeInstruction s = .next (traced t) := by
  rw [executeInstruction, hfetch, runDecoded, hexec]
  exact congrArg Host.Outcome.next (traceTest_eq_traced t)

theorem executeInstruction_refused {r : Refusal} (hexec : exec i s1 = .refused r) :
    executeInstruction s = .refused r := by
  rw [executeInstruction, hfetch, runDecoded, hexec]

end main

theorem subInstructionPart_next_of_fetch {i : Instr} {rest : List Byte} {s1 : State}
    (hfetch : fetchSub (maxLength - 1) [(subFetch8 s).1] (subFetch8 s).2 = (.ok i rest, s1))
    (hexec : exec i s1 = .next t) : ∃ u, subInstructionPart s = .next u ∧ SubTurnEnd t u := by
  refine ⟨_, ?_, subTurnEnd_afterSubInstruction t⟩
  rw [subInstructionPart, hfetch, runSubDecoded, hexec]

/-! ## The main part of a quantum -/

theorem instructionPart_asleep (h : s.cpu.sleep = true) : ∃ u, instructionPart s = .next u ∧ QuantumEnd s u := by
  refine ⟨_, ?_, quantumEnd_afterInstruction s⟩
  rw [instructionPart, if_pos h]

section awake

variable (hawake : s.cpu.sleep = false)
include hawake

theorem instructionPart_next_of_execute (h : executeInstruction s = .next t) :
    ∃ u, instructionPart s = .next u ∧ QuantumEnd t u := by
  refine ⟨_, ?_, quantumEnd_afterInstruction t⟩
  rw [instructionPart, hawake, if_neg Bool.false_ne_true, h]

theorem instructionPart_refused_of_execute {r : Refusal} (h : executeInstruction s = .refused r) :
    instructionPart s = .refused r := by
  rw [instructionPart, hawake, if_neg Bool.false_ne_true, h]

end awake

theorem step_main (h : s.model.phase = .main) :
    step s = instructionPart (boundaryCheck (takeHost s.model.hostIn s)) := by
  rw [step, quantumStep, h, mainStep]

theorem step_sub (h : s.model.phase = .sub) : step s = subInstructionPart (subInterruptCheck (subDevUpdate s)) := by
  rw [step, quantumStep, h, subStep]

/-- Settles O5: a step is one of the two parts (`step_main`, `step_sub`), and what each part does with its instruction is said
above. -/
theorem stepRunsDecoded : Obligations.StepRunsDecoded := by
  refine fun s s1 i rest => ⟨fun hphase => ?main, fun hphase => ?sub⟩
  case main =>
    rw [step_main hphase]
    refine ⟨instructionPart_asleep, fun hawake => ⟨fun t => instructionPart_next_of_execute hawake, fun r =>
      instructionPart_refused_of_execute hawake, fun hfetch => ⟨fun t hexec => ?_, fun r hexec => ?_⟩⟩⟩
    · have hrun := executeInstruction_next hfetch hexec
      exact ⟨hrun, instructionPart_next_of_execute hawake hrun⟩
    · exact instructionPart_refused_of_execute hawake (executeInstruction_refused hfetch hexec)
  case sub =>
    rw [step_sub hphase]
    exact ⟨rfl, fun hfetch t hexec => subInstructionPart_next_of_fetch hfetch hexec⟩

end Sys2Proof.Machine
end

section
/-! Proofs. The length of an encoding (R125). -/

namespace Sys2Proof.Machine

open Sys2Proof.Laws in
theorem length_encode (i : Instr) : 1 ≤ (encode i).length ∧ (encode i).length ≤ maxLength := by
  cases i with
  -- the general format
  | eaReg | eaPreDec | eaPostInc | eaInd | eaDisp8 | eaDisp16 | eaAbs8 | eaAbs16 | eaImm8 | eaImm16 | cmpGImm8 | cmpGImm16
  | movGImm8 | movGImm16 | addQ | swap | exts | extu | clr | neg | not | tst | tas | shal | shar | shll | shlr | rotl | rotr
  | rotxl | rotxr | addG | adds | sub | subs | or | bsetR | orc | and | bclrR | andc | xor | bnotR | xorc | cmpG | btstR
  | movGLoad | ldc | movGStore | xch | stc | addx | mulxu | subx | divxu | bsetI | bclrI | bnotI | btstI =>
    exact general_length _ _ (Nat.le_of_ble_eq_true rfl)
  -- the short format and SUB8, where an operand has several lengths
  | bra | brn | bhi | bls | bcc | bcs | bne | beq | bvc | bvs | bpl | bmi | bge | blt | bgt | ble => exact bcc_length _ _
  | jmpInd | jsrInd => exact jump_length _ _
  | bsr d => cases d <;> exact ⟨Nat.le_of_ble_eq_true rfl, Nat.le_of_ble_eq_true rfl⟩
  | rtd v | prtd v | link v => cases v <;> exact ⟨Nat.le_of_ble_eq_true rfl, Nat.le_of_ble_eq_true rfl⟩
  | s8Lda | s8Ldx | s8Ldy | s8Sta | s8Stx | s8Sty | s8Adc | s8Sbc | s8Cmp | s8Cpx | s8Cpy | s8Inc | s8Dec | s8And | s8Ora
  | s8Eor | s8Bit | s8Asl | s8Lsr | s8Rol | s8Ror => exact mode_length _ _
  | s8Bbs | s8Bbc | s8Seb | s8Clb => exact bit_length _ _ _ _ _ (Nat.le_of_ble_eq_true rfl)
  -- one length
  | _ => exact ⟨Nat.le_of_ble_eq_true rfl, Nat.le_of_ble_eq_true rfl⟩

end Sys2Proof.Machine
end

section
/-! Proofs. An instruction whose encoding stands in plain memory is fetched, and nothing but the program counter changes
(R23, R24, R110, R125, R152, R403). -/

namespace Sys2Proof.Machine

/-! ## The fetch loops of the two cores -/

/-- The bytes `bs` come one after the other from `fetch`, from the state `s` to the state `t`. -/
inductive Delivers (fetch : State → Byte × State) : List Byte → State → State → Prop
  | nil (s) : Delivers fetch [] s s
  | cons {b bs s u t} (hfirst : fetch s = (b, u)) (hrest : Delivers fetch bs u t) : Delivers fetch (b :: bs) s t

/-- A loop that fetches bytes until the decoder has an answer, at most as many as its first argument says. -/
structure FetchLoop (dec : List Byte → Decoded) (fetch : State → Byte × State)
    (loop : Nat → List Byte → State → Decoded × State) : Prop where
  done : ∀ {n bs s i r}, dec bs = .ok i r → loop n bs s = (.ok i r, s)
  more : ∀ {n bs s}, dec bs = .more → loop (n + 1) bs s = loop n (bs ++ [(fetch s).1]) (fetch s).2

theorem fetchMain_loop : FetchLoop decode fetch8 fetchMain where
  done {n bs s i r} h := by cases n <;> simp [fetchMain, h]
  more h := by simp [fetchMain, h]

theorem fetchSub_loop : FetchLoop decodeSub subFetch8 fetchSub where
  done {n bs s i r} h := by cases n <;> simp [fetchSub, h]
  more h := by simp [fetchSub, h]

section loop

variable {dec : List Byte → Decoded} {fetch : State → Byte × State} {loop : Nat → List Byte → State → Decoded × State}
  {i : Instr} {s t : State}

/-- A loop that has read `pre` of an encoding and is delivered the rest answers with the instruction. -/
theorem FetchLoop.reads (hloop : FetchLoop dec fetch loop) (hdec : Streams dec) {pre post : List Byte} {n : Nat}
    (hok : dec (pre ++ post) = .ok i []) (hpost : Delivers fetch post s t)
    (hn : post.length ≤ n) : loop n pre s = (.ok i [], t) := by
  induction hpost generalizing pre n with
  | nil s =>
    rw [List.append_nil] at hok
    exact hloop.done hok
  | @cons b bs s u t hfirst hrest ih =>
    obtain ⟨n, rfl⟩ : ∃ m, n = m + 1 := ⟨n - 1, by rw [List.length_cons] at hn; omega⟩
    rw [hloop.more (hdec.more_of_ok_append hok), hfirst]
    exact ih (by rwa [List.append_assoc]) (Nat.le_of_succ_le_succ hn)

/-- The same where the first byte is fetched before the loop. -/
theorem FetchLoop.reads_after_first (hloop : FetchLoop dec fetch loop) (hdec : Streams dec) {bs : List Byte} {n : Nat}
    (hok : dec bs = .ok i []) (hbs : Delivers fetch bs s t) (hpos : 1 ≤ bs.length) (hn : bs.length ≤ n + 1) :
    loop n [(fetch s).1] (fetch s).2 = (.ok i [], t) := by
  cases hbs with
  | nil => cases hpos
  | @cons b bs _ u _ hfirst hrest =>
    rw [hfirst]
    exact hloop.reads hdec hok hrest (Nat.le_of_succ_le_succ hn)

end loop

/-! ## Code in plain memory -/

/-- The bytes `bs` stand where the main core fetches. -/
def MainCode (bs : List Byte) (s : State) : Prop :=
  ∀ k, (h : k < bs.length) → s.plainByte (busAddr s.cpu.cp (s.cpu.pc + BitVec.ofNat 16 k)) = true ∧
    peek8 s (busAddr s.cpu.cp (s.cpu.pc + BitVec.ofNat 16 k)) = bs[k]

/-- The bytes `bs` stand in the private RAM or ROM where the sub core fetches. -/
def SubCode (bs : List Byte) (s : State) : Prop :=
  ∀ k, (h : k < bs.length) →
    ((∃ j, subTarget (s.sub.spc + BitVec.ofNat 16 k) = .ram j) ∨
      (∃ j, subTarget (s.sub.spc + BitVec.ofNat 16 k) = .rom j)) ∧
    subPeek s (s.sub.spc + BitVec.ofNat 16 k) = bs[k]

/-- The program counter wraps at 16 bits, and one step and `n` steps are `n + 1` steps. -/
theorem add_one_add_ofNat (p : Word) (n : Nat) : p + 1#16 + BitVec.ofNat 16 n = p + BitVec.ofNat 16 (n + 1) := by
  rw [BitVec.add_assoc, Nat.add_comm n 1, BitVec.ofNat_add]

theorem add_ofNat_zero (p : Word) : p + BitVec.ofNat 16 0 = p := BitVec.add_zero p

section main

variable {b : Byte} {bs : List Byte} {s : State}

theorem fetch8_of_code (h : MainCode (b :: bs) s) : fetch8 s = (b, s.setPc (s.cpu.pc + 1#16)) := by
  obtain ⟨hplain, hbyte⟩ := h 0 (Nat.zero_lt_succ _)
  rw [add_ofNat_zero] at hplain hbyte
  rw [fetch8, read8_plain ⟨rfl, rfl, rfl⟩ hplain, hbyte]
  rfl

theorem peek8_setPc (v : Word) {pa : BusAddr} (h : s.plainByte pa = true) : peek8 (s.setPc v) pa = peek8 s pa := by
  rw [peek8, read8_plain (s := s) (t := s.setPc v) ⟨rfl, rfl, rfl⟩ h]

/-- What stands behind the first byte. -/
theorem MainCode.tail (h : MainCode (b :: bs) s) : MainCode bs (s.setPc (s.cpu.pc + 1#16)) := by
  intro k hk
  obtain ⟨hplain, hbyte⟩ := h (k + 1) (Nat.succ_lt_succ hk)
  rw [setPc_cpu_cp, setPc_cpu_pc, add_one_add_ofNat]
  exact ⟨hplain, (peek8_setPc _ hplain).trans hbyte⟩

/-- Fetching code from plain memory moves PC behind it and changes nothing else (R152). -/
theorem MainCode.delivers {bs : List Byte} {s : State} (h : MainCode bs s) :
    Delivers fetch8 bs s (s.setPc (s.cpu.pc + BitVec.ofNat 16 bs.length)) := by
  induction bs generalizing s with
  | nil =>
    rw [List.length_nil, add_ofNat_zero]
    exact .nil s
  | cons b bs ih =>
    have hrest := ih h.tail
    rw [setPc_cpu_pc, add_one_add_ofNat] at hrest
    exact .cons (fetch8_of_code h) hrest

end main

section sub

variable {b : Byte} {bs : List Byte} {s : State}

/-- A read of the private RAM or ROM has no side effect and does not see SPC (R402). -/
theorem subRead_private {a : Word} (h : (∃ j, subTarget a = .ram j) ∨ (∃ j, subTarget a = .rom j)) (v : Word) :
    subRead a (s.setSpc v) = (subPeek s a, s.setSpc v) := by
  obtain ⟨j, hj⟩ | ⟨j, hj⟩ := h <;> (unfold subPeek subRead; rw [hj]; rfl)

theorem subFetch8_of_code (h : SubCode (b :: bs) s) : subFetch8 s = (b, s.setSpc (s.sub.spc + 1#16)) := by
  obtain ⟨hprivate, hbyte⟩ := h 0 (Nat.zero_lt_succ _)
  rw [add_ofNat_zero] at hprivate hbyte
  have hread : subRead s.sub.spc s = (subPeek s s.sub.spc, s) := subRead_private hprivate s.sub.spc
  rw [subFetch8, hread, hbyte]
  rfl

/-- What stands behind the first byte. -/
theorem SubCode.tail (h : SubCode (b :: bs) s) : SubCode bs (s.setSpc (s.sub.spc + 1#16)) := by
  intro k hk
  obtain ⟨hprivate, hbyte⟩ := h (k + 1) (Nat.succ_lt_succ hk)
  rw [setSpc_sub_spc, add_one_add_ofNat, subPeek, subRead_private hprivate]
  exact ⟨hprivate, hbyte⟩

/-- Fetching code from the private RAM or ROM moves SPC behind it and changes nothing else (R403). -/
theorem SubCode.delivers {bs : List Byte} {s : State} (h : SubCode bs s) :
    Delivers subFetch8 bs s (s.setSpc (s.sub.spc + BitVec.ofNat 16 bs.length)) := by
  induction bs generalizing s with
  | nil =>
    rw [List.length_nil, add_ofNat_zero]
    exact .nil s
  | cons b bs ih =>
    have hrest := ih h.tail
    rw [setSpc_sub_spc, add_one_add_ofNat] at hrest
    exact .cons (subFetch8_of_code h) hrest

end sub

/-! ## The instruction that stands there -/

variable {s : State} {i : Instr}

theorem fetchMain_of_code (hwf : i.wf = true) (hmain : i.isSub8 = false) (hwhole : i.isSpecifier = false)
    (h : MainCode (encode i) s) :
    fetchMain maxLength [] s = (.ok i [], s.setPc (s.cpu.pc + BitVec.ofNat 16 (encode i).length)) := by
  have hdecode := decode_encode i [] hwf hmain hwhole
  rw [List.append_nil] at hdecode
  exact fetchMain_loop.reads decode_streams hdecode h.delivers (length_encode i).2

/-- The sub core fetches the opcode before the loop (R403). -/
theorem fetchSub_of_code (hwf : i.wf = true) (hsub : i.isSub8 = true) (h : SubCode (encode i) s) :
    fetchSub (maxLength - 1) [(subFetch8 s).1] (subFetch8 s).2 =
      (.ok i [], s.setSpc (s.sub.spc + BitVec.ofNat 16 (encode i).length)) := by
  have hdecode := decodeSub_encode i [] hwf hsub
  rw [List.append_nil] at hdecode
  obtain ⟨hpos, hlength⟩ := length_encode i
  exact fetchSub_loop.reads_after_first decodeSub_streams hdecode h.delivers hpos hlength

/-- Settles O6: the fetch by `fetchMain_of_code` and `fetchSub_of_code`, what follows it as in O5. -/
theorem encodedInstructionRuns : Obligations.EncodedInstructionRuns := by
  refine fun s i hwf hwhole => ⟨fun hmain hcode => ?main, fun hsub hcode t hexec => ?sub⟩
  case main =>
    have hfetch := fetchMain_of_code hwf hmain hwhole hcode
    exact ⟨fun t => executeInstruction_next hfetch, fun r => executeInstruction_refused hfetch⟩
  case sub => exact subInstructionPart_next_of_fetch (fetchSub_of_code hwf hsub hcode) hexec

end Sys2Proof.Machine
end

section
/-! Proofs. Values at an operand's width: the bits of a register they replace, and the flags they leave (R22, R179). -/

namespace Sys2Proof.Machine

variable (sz : Size) (v : Word)

/-- A value narrowed to a width keeps its low bits (R22). -/
theorem toNat_narrow : (narrow sz v).toNat = v.toNat % 2 ^ sz.bits := by
  cases sz with
  | byte => exact (BitVec.toNat_and _ _).trans (Nat.and_two_pow_sub_one_eq_mod _ 8)
  | word => exact (Nat.mod_eq_of_lt v.isLt).symm

/-- A byte written to a register leaves its high byte (R22). -/
theorem mergeReg_byte (old : Word) : mergeReg .byte old v = Word.ofBytes old.hi v.lo := by
  have hkeep : ∀ i < 16, (0xFF00#16).getLsbD i = decide (8 ≤ i) := by decide
  have htake : ∀ i < 16, (0x00FF#16).getLsbD i = decide (i < 8) := by decide
  refine BitVec.eq_of_getLsbD_eq fun i hi => ?_
  rw [mergeReg, BitVec.getLsbD_or, BitVec.getLsbD_and, BitVec.getLsbD_and, hkeep i hi, htake i hi, Word.ofBytes,
    BitVec.getLsbD_append, Word.hi, Word.lo, BitVec.getLsbD_extractLsb', BitVec.getLsbD_extractLsb']
  by_cases hlow : i < 8
  · simp [hlow, Nat.not_le.2 hlow]
  · simp [hlow, Nat.not_lt.1 hlow, show i - 8 < 8 by omega]

/-- A byte write keeps the register's bits 15:8, a word write none (R22). -/
theorem toNat_mergeReg (old : Word) :
    (mergeReg sz old v).toNat = old.toNat / 2 ^ sz.bits * 2 ^ sz.bits + v.toNat % 2 ^ sz.bits := by
  cases sz with
  | byte =>
    rw [mergeReg_byte, Word.toNat_ofBytes, Word.toNat_hi, Word.toNat_lo]
    rfl
  | word =>
    have hold := old.isLt
    have hv := v.isLt
    simp only [mergeReg, Size.bits]
    omega

theorem topBit_eq : topBit sz v = decide (2 ^ sz.bits ≤ 2 * (v.toNat % 2 ^ sz.bits)) := by
  have hbit : topBit sz v = decide (v.toNat / 2 ^ (sz.bits - 1) % 2 = 1) := Nat.testBit_eq_decide_div_mod_eq
  rw [hbit, decide_eq_decide]
  cases sz <;> simp only [Size.bits] <;> omega

theorem isZero_eq : isZero sz v = decide (v.toNat % 2 ^ sz.bits = 0) := by
  rw [← toNat_narrow, isZero, beq_eq_decide, decide_eq_decide]
  exact BitVec.toNat_inj.symm

/-- The flags of a moved value (R179). -/
theorem logicFlags_eq (old : Nzvc) :
    logicFlags sz v old = valueFlags (2 ^ sz.bits) (v.toNat % 2 ^ sz.bits) false old.c := by
  rw [logicFlags, valueFlags, topBit_eq, isZero_eq]

theorem testFlags_eq : testFlags sz v = valueFlags (2 ^ sz.bits) (v.toNat % 2 ^ sz.bits) false false := by
  rw [testFlags, valueFlags, topBit_eq, isZero_eq]

/-- The flags of a value read only what its width shows (R179). -/
theorem logicFlags_narrow (old : Nzvc) : logicFlags sz (narrow sz v) old = logicFlags sz v old := by
  rw [logicFlags_eq, logicFlags_eq, toNat_narrow, Nat.mod_mod]

theorem toInt_sext16 (b : Byte) : (sext16 b).toInt = b.toInt := BitVec.toInt_signExtend_of_le (by decide)

theorem toNat_sext16 (b : Byte) : (sext16 b).toNat = (b.toInt % 0x10000).toNat := by
  rw [sext16, BitVec.signExtend, BitVec.toNat_ofInt]
  rfl

/-- The flags of a whole register (R204). -/
theorem logicFlags_word (old : Nzvc) : logicFlags .word v old = valueFlags 0x10000 v.toNat false old.c :=
  (logicFlags_eq .word v old).trans (congrArg (valueFlags 0x10000 · false old.c) (Nat.mod_eq_of_lt v.isLt))

/-- The flags of a whole register that is tested (R244, R245). -/
theorem testFlags_word : testFlags .word v = valueFlags 0x10000 v.toNat false false :=
  (testFlags_eq .word v).trans (congrArg (valueFlags 0x10000 · false false) (Nat.mod_eq_of_lt v.isLt))

end Sys2Proof.Machine
end

section
/-! Proofs. XCH, SWAP, EXTS, EXTU (R203, R204, R244, R245). -/

namespace Sys2Proof.Machine

/-- An instruction that writes one register and the flags changes nothing else. -/
theorem exec_writesRegister {i : Instr} {s : State} {d : Reg} {v : Word} {f : Nzvc}
    (h : exec i s = .next ((s.setReg d v).setNzvc f)) :
    ∃ t, exec i s = .next t ∧ SameButRegsSr s t ∧ OtherRegs d s t ∧ SameSrSystem s t ∧ t.reg d = v ∧ t.nzvc = f :=
  ⟨_, h, rfl, fun m hm => reg_setReg_other s d m v hm, fun k hk => sr_setNzvc_high (s.setReg d v) f k hk,
    reg_setReg_same s d v, nzvc_setNzvc _ f⟩

theorem toNat_swapBytes (v : Word) : (swapBytes v).toNat = v.toNat % 256 * 256 + v.toNat / 256 := by
  rw [swapBytes, Word.toNat_ofBytes, Word.toNat_lo, Word.toNat_hi]

theorem toInt_sext16_lo (v : Word) : (sext16 v.lo).toInt = Int.bmod v.toNat 256 := by
  rw [toInt_sext16, BitVec.toInt_eq_toNat_bmod, Word.toNat_lo]
  exact Int.emod_bmod v.toNat 256

theorem toNat_zext_lo (v : Word) : (v.lo.setWidth 16).toNat = v.toNat % 256 :=
  (BitVec.toNat_setWidth_of_le (by decide)).trans (Word.toNat_lo v)

/-- The zero-extended byte is never negative (R245). -/
theorem testFlags_zext_lo (v : Word) :
    testFlags .word (v.lo.setWidth 16) = { n := false, z := decide (v.toNat % 256 = 0), v := false, c := false } := by
  rw [testFlags_word, toNat_zext_lo, valueFlags, decide_eq_false (by omega)]

/-- Settles O13: SWAP, EXTS and EXTU are one write of a register and of the flags, by `exec_writesRegister`. -/
theorem exchangeSwapExtend : Obligations.ExchangeSwapExtend := by
  refine fun s d r => ⟨⟨_, rfl, rfl, ?xchTo, reg_setReg_same _ _ _, fun m hd hr => ?xchOther⟩, ?swap, ?exts, ?extu⟩
  case xchTo =>
    by_cases h : d = r
    · subst h
      exact reg_setReg_same _ _ _
    · exact (reg_setReg_other _ _ _ _ h).trans (reg_setReg_same _ _ _)
  case xchOther => exact (reg_setReg_other _ _ _ _ hr).trans (reg_setReg_other _ _ _ _ hd)
  case swap =>
    obtain ⟨t, hexec, hsame, hother, hsr, hreg, hflags⟩ := exec_writesRegister (i := .swap (.reg .byte d)) (s := s) rfl
    refine ⟨t, hexec, hsame, hother, hsr, ?_, ?_⟩
    · rw [hreg]
      exact toNat_swapBytes _
    · rw [hflags, hreg]
      exact logicFlags_word _ _
  case exts =>
    obtain ⟨t, hexec, hsame, hother, hsr, hreg, hflags⟩ := exec_writesRegister (i := .exts (.reg .byte d)) (s := s) rfl
    refine ⟨t, hexec, hsame, hother, hsr, ?_, ?_⟩
    · rw [hreg]
      exact toInt_sext16_lo _
    · rw [hflags, hreg]
      exact testFlags_word _
  case extu =>
    obtain ⟨t, hexec, hsame, hother, hsr, hreg, hflags⟩ := exec_writesRegister (i := .extu (.reg .byte d)) (s := s) rfl
    refine ⟨t, hexec, hsame, hother, hsr, ?_, ?_⟩
    · rw [hreg]
      exact toNat_zext_lo _
    · rw [hflags]
      exact testFlags_zext_lo _

end Sys2Proof.Machine
end

section
/-! Proofs. The examples written out in the spec. -/

namespace Sys2Proof.Machine

/-- Settles O1: the bytes are the instructions' encodings, which both decoders read back (`decode_encode`,
`decodeSub_encode`). -/
theorem knownWordsDecode : Obligations.KnownWordsDecode :=
  ⟨decode_encode (.movGLoad (.ind .word .r1) .r2) [] rfl rfl rfl,
    decode_encode (.movGImm16 0x1234#16 (.disp8 .word .r6 0x10#8)) [] rfl rfl rfl,
    decode_encode (.adds (.imm8 0xFE#8) .r4) [] rfl rfl rfl,
    decode_encode (.bclrR .r2 (.reg .word .r3)) [] rfl rfl rfl,
    decode_encode (.rotxr (.reg .word .r0)) [] rfl rfl rfl,
    decode_encode (.ble (.d16 0xFF00#16)) [] rfl rfl rfl,
    decode_encode (.jmpInd (.disp8 .r1 0x04#8)) [] rfl rfl rfl,
    decode_encode (.andc (.imm16 0xF8FF#16) .sr) [] rfl rfl rfl,
    decode_encode (.trapa 3#4) [] rfl rfl rfl,
    decode_encode (.scbF .r1 0xFD#8) [] rfl rfl rfl,
    decodeSub_encode (.s8Sta (.abs 0x0200#16)) [] rfl rfl,
    decodeSub_encode (.s8Ldm 0x01#8 0xF2#8) [] rfl rfl,
    decodeSub_encode (.s8Bne 0xFE#8) [] rfl rfl,
    decodeSub_encode (.s8Bbs 7#3 (.zp 0xE1#8) 0xFD#8) [] rfl rfl⟩

end Sys2Proof.Machine
end

section
/-! Proofs. Loads: the operand is read, then one register and the flags are written (R190, R194, R195, R196, R198). -/

namespace Sys2Proof.Machine

variable (s : State) (ea : EA)

/-! ## Frames one after another -/

section trans
variable {s t u : State}

theorem SameControl.trans (h : SameControl s t) (g : SameControl t u) : SameControl s u := by
  unfold SameControl at *
  simp only [g, h, and_self]

theorem MainSide.trans (h : MainSide s t) (g : MainSide t u) : MainSide s u := by
  unfold MainSide at *
  simp only [g, h, and_self]

theorem SameOutside.trans (h : SameOutside s t) (g : SameOutside t u) : SameOutside s u := by
  unfold SameOutside at *
  simp only [g, h, and_self]

theorem SameSrSystem.trans (h : SameSrSystem s t) (g : SameSrSystem t u) : SameSrSystem s u :=
  fun k hk => (g k hk).trans (h k hk)

theorem ArraysKept.trans (h : ArraysKept s t) (g : ArraysKept t u) : ArraysKept s u := fun x => (g x).trans (h x)

/-- What general registers and SR are not. -/
theorem SameButRegsSr.kept (h : SameButRegsSr s t) : SameControl s t ∧ MainSide s t ∧ ArraysKept s t ∧
    t.cpu.excSlot = s.cpu.excSlot ∧ SameOutside s t ∧ t.mem = s.mem := by
  obtain ⟨r, q, rfl⟩ : ∃ r q, t = { s with cpu.regs := r, cpu.sr := q } := ⟨_, _, h⟩
  simp only [SameControl, MainSide, SameOutside, and_self, true_and, and_true]
  exact fun g => by cases g <;> rfl

end trans

/-! ## A read of memory -/

theorem memRead_excSlot (sz : Size) (pa : BusAddr) :
    (memRead sz pa s).2.cpu.excSlot = slotAfterAccess sz (some pa) s.cpu.excSlot := by
  cases sz with
  | byte => simp [memRead, slotAfterAccess]
  | word => simp [memRead, memRead16, checkAligned_eq]

/-! ## An operand read -/

theorem fetched_excSlot :
    (s.fetched ea).2.cpu.excSlot = slotAfterAccess ea.size (s.operandAddr ea) s.cpu.excSlot := by
  unfold State.fetched State.operandAddr
  cases (resolveEA ea s).1 with
  | reg n | imm v => exact resolveEA_excSlot s ea
  | mem pa => rw [readOp, memRead_excSlot, resolveEA_excSlot]

theorem fetched_arraysKept : ArraysKept s (s.fetched ea).2 := by
  intro g
  cases g <;> simp [State.fetched, State.arrayByte]

/-- An operand whose read has no side effect outside the CPU changes what the specifier steps, and the slot (R82). -/
theorem fetched_of_quiet (h : s.quiet ea = true) : (s.fetched ea).2 =
    { (resolveEA ea s).2 with cpu.excSlot := slotAfterAccess ea.size (s.operandAddr ea) s.cpu.excSlot } := by
  unfold State.fetched
  unfold State.quiet State.operandAddr at *
  cases ho : (resolveEA ea s).1 with
  | reg n | imm v => rw [readOp, slotAfterAccess, ← resolveEA_excSlot s ea]
  | mem pa =>
    rw [ho] at h
    rw [readOp, (memRead_plain (s := s) ⟨by simp, by simp, by simp⟩ h).2, resolveEA_excSlot]

/-- Reading an operand changes no register but the stepped one, no flag and no memory. -/
theorem fetched_registerFrame : RegisterFrame ea [] s (s.fetched ea).2 := by
  have hregs : ∀ m, (s.fetched ea).2.reg m = (resolveEA ea s).2.reg m := fun m => readOp_reg _ _ _ m
  obtain ⟨hother, hstepped⟩ := resolveEA_steppedRegs ea s
  refine ⟨by simp [SameControl, State.fetched], by simp [MainSide, State.fetched], fun k _ => by simp [State.fetched],
    fetched_arraysKept s ea, ⟨fun m hm h => (hregs m).trans (hother m hm h), fun m _ _ => hregs m⟩,
    fetched_excSlot s ea, fun hq => ?_⟩
  rw [fetched_of_quiet s ea hq, resolveEA_sameButRegs ea s]
  exact ⟨⟨rfl, rfl, rfl, rfl, rfl⟩, rfl⟩

/-! ## The register written -/

variable {s ea}

/-- Writes of registers and flags after the operand is read widen the frame by those registers. -/
theorem RegisterFrame.write {u t : State} {rds : List Reg} (h : RegisterFrame ea [] s u) (ht : SameButRegsSr u t)
    (hregs : ∀ m, m ∉ rds → t.reg m = u.reg m) (hsr : SameSrSystem u t) : RegisterFrame ea rds s t := by
  obtain ⟨hcontrol, hside, hsystem, harrays, ⟨hother, hstepped⟩, hslot, hquiet⟩ := h
  obtain ⟨hcontrol', hside', harrays', hslot', hout', hmem'⟩ := ht.kept
  refine ⟨hcontrol.trans hcontrol', hside.trans hside', hsystem.trans hsr, harrays.trans harrays',
    ⟨fun m hm h => (hregs m hm).trans (hother m List.not_mem_nil h),
      fun m hm h => (hregs m hm).trans (hstepped m List.not_mem_nil h)⟩, hslot'.trans hslot, fun hq => ?_⟩
  obtain ⟨hout, hmem⟩ := hquiet hq
  exact ⟨hout.trans hout', hmem'.trans hmem⟩

variable {i : Instr} {rd : Reg}

/-- An instruction that reads its operand, then writes one register and the flags. -/
theorem loadsRegister_of_exec {v : Word} {f : Nzvc} (h : exec i s = .next (((s.fetched ea).2.setReg rd v).setNzvc f)) :
    LoadsRegister i ea rd v.toNat f s :=
  ⟨_, h, congrArg BitVec.toNat (reg_setReg_same _ rd v), nzvc_setNzvc _ f, rfl,
    (fetched_registerFrame s ea).write rfl (fun m hm => reg_setReg_other _ rd m v (List.ne_of_not_mem_cons hm))
      fun k hk => sr_setNzvc_high ((s.fetched ea).2.setReg rd v) f k hk⟩

/-- A move of the operand read into Rd is a load (R22, R179, R190). -/
theorem loadsOperand_of_exec (h : exec i s = .next (moveToReg ea.size rd (s.fetched ea).1 (s.fetched ea).2)) :
    loadsOperand i ea rd s := by
  have hload := loadsRegister_of_exec h
  have hnzvc : (s.fetched ea).2.nzvc = s.nzvc := by simp [State.fetched]
  rwa [toNat_mergeReg, logicFlags_eq, hnzvc] at hload

/-- Settles O11: every load moves the operand it read into Rd, by `loadsOperand_of_exec`. -/
theorem loads : Obligations.Loads :=
  fun _ _ => ⟨fun _ => loadsOperand_of_exec rfl, fun _ => loadsOperand_of_exec rfl, fun _ => loadsOperand_of_exec rfl,
    fun _ _ => loadsOperand_of_exec rfl, fun _ _ => loadsOperand_of_exec rfl⟩

end Sys2Proof.Machine
end

section
/-! Proofs. Stores: the value is written at the operand's address, then the flags (R191, R192, R193, R197, R199). -/

namespace Sys2Proof.Machine

variable {s t : State} {sz : Size} {pa : BusAddr}

/-! ## A store to memory -/

theorem memWrite_excSlot (s : State) (sz : Size) (pa : BusAddr) (v : Word) :
    (memWrite sz pa v s).cpu.excSlot = slotAfterAccess sz (some pa) s.cpu.excSlot := by
  cases sz with
  | byte => simp [memWrite, slotAfterAccess]
  | word => simp [memWrite, memWrite16, checkAligned_eq]

/-- A byte stored to RAM or SRAM changes RAM and SRAM alone. -/
theorem write8_of_plainRam (b : Byte) (h : s.plainRam pa = true) :
    ∃ ram sram, write8 pa b s = { s with mem.ram := ram, mem.sram := sram } := by
  obtain ⟨i, hi⟩ | ⟨i, hi⟩ := plainRam_iff.1 h
  · exact ⟨_, _, write8_ram b hi⟩
  · exact ⟨_, _, write8_sram b hi⟩

/-- An operand stored to RAM or SRAM changes RAM, SRAM and the slot alone (R76, R77). -/
theorem memWrite_of_ramAt (v : Word) (h : s.ramAt sz pa = true) : ∃ ram sram, memWrite sz pa v s =
    { s with cpu.excSlot := slotAfterAccess sz (some pa) s.cpu.excSlot, mem.ram := ram, mem.sram := sram } := by
  cases sz with
  | byte =>
    obtain ⟨ram, sram, hwrite⟩ := write8_of_plainRam v.lo (ramAt_byte_iff.1 h)
    exact ⟨ram, sram, hwrite⟩
  | word =>
    obtain ⟨hfirst, htarget⟩ := memWrite16_firstByte v h
    have hsecond := (plainRam_congr (htarget _)).trans (ramAt_word_iff.1 h).2.1
    obtain ⟨ram, sram, hwrite⟩ := write8_of_plainRam v.hi hfirst
    obtain ⟨ram', sram', hwrite'⟩ := write8_of_plainRam v.lo hsecond
    exact ⟨ram', sram', by rw [memWrite, memWrite16, hwrite', hwrite, checkAligned_eq]⟩

theorem memWrite_sameOutside (v : Word) (h : s.ramAt sz pa = true) : SameOutside s (memWrite sz pa v s) := by
  obtain ⟨ram, sram, hwrite⟩ := memWrite_of_ramAt v h
  rw [hwrite]
  exact ⟨rfl, rfl, rfl, rfl, rfl⟩

theorem memWrite_sameControl (s : State) (sz : Size) (pa : BusAddr) (v : Word) : SameControl s (memWrite sz pa v s) := by
  simp [SameControl]

theorem memWrite_mainSide (s : State) (sz : Size) (pa : BusAddr) (v : Word) : MainSide s (memWrite sz pa v s) := by
  simp [MainSide]

/-! ## States whose memory is the same -/

theorem plainAt_congr (h : ∀ pb, t.target pb = s.target pb) : t.plainAt sz pa = s.plainAt sz pa := by
  have hplain : t.plainByte = s.plainByte := funext fun pb => plainByte_congr (h pb)
  rw [State.plainAt, hplain, State.plainAt]

theorem plainByte_of_distinctRam {as : List BusAddr} (h : s.distinctRam as = true) : as.all s.plainByte = true := by
  rw [State.distinctRam, Bool.and_eq_true, List.all_eq_true] at h
  exact List.all_eq_true.2 fun pb hpb => plainByte_of_plainRam (h.1 pb hpb)

theorem plainAt_of_ramAt (h : s.ramAt sz pa = true) : s.plainAt sz pa = true := plainByte_of_distinctRam h

/-- An operand in memory is what its bytes are (R73, R75). -/
theorem valueAt_of_peek8 (h : ∀ pb ∈ accessBytes sz pa, peek8 t pb = peek8 s pb) :
    t.valueAt sz pa = s.valueAt sz pa := by
  cases sz with
  | byte => rw [State.valueAt, State.valueAt, h pa (by simp [accessBytes])]
  | word =>
    rw [State.valueAt, State.valueAt, h (evenBelow pa) (by simp [accessBytes]),
      h (evenBelow pa + 1#20) (by simp [accessBytes])]

theorem valueAt_congr (h : SameBytes s t) (hp : s.plainAt sz pa = true) : t.valueAt sz pa = s.valueAt sz pa :=
  valueAt_of_peek8 fun pb hpb => by rw [peek8, read8_plain h (List.all_eq_true.1 hp pb hpb)]

theorem ArraysKeptButStored.trans_kept {u : State} {v : Word} (h : ArraysKeptButStored sz pa v s t)
    (g : ArraysKept t u) : ArraysKeptButStored sz pa v s u := by
  cases sz with
  | byte => exact fun x hx => (g x).trans (h x hx)
  | word => exact fun x hx hx' => (g x).trans (h x hx hx')

/-- What is stored to RAM or SRAM stays there while memory stays as the store left it. -/
theorem valueAt_of_stored {v : Word} (h : SameBytes (memWrite sz pa v s) t) (ha : s.arraysOk = true)
    (hram : s.ramAt sz pa = true) : t.valueAt sz pa = v.toNat % 2 ^ sz.bits := by
  have htarget : ∀ pb, (memWrite sz pa v s).target pb = s.target pb :=
    target_congr (memWrite_params s pa v sz) (memWrite_dev v hram)
  exact (valueAt_congr h ((plainAt_congr htarget).trans (plainAt_of_ramAt hram))).trans (valueAt_memWrite v ha hram)

/-! ## A store after the specifier's side effect -/

/-- A store reaches the same bytes whatever the general registers hold. -/
theorem memWrite_withRegs_arraysKept (s : State) (sz : Size) (pa : BusAddr) (v : Word) (r : Regs) :
    ArraysKeptButStored sz pa v s (memWrite sz pa v { s with cpu.regs := r }) := by
  have hstored := memWrite_arraysKeptButStored { s with cpu.regs := r } sz pa v
  have harrays : ∀ g, State.arrayByte { s with cpu.regs := r } g = s.arrayByte g := fun g => by cases g <;> rfl
  cases sz with
  | byte => exact fun g hg => (hstored g hg).trans (harrays g)
  | word =>
    refine fun g hg hg' => (hstored g hg ?_).trans (harrays g)
    rwa [write8_target_congr s { s with cpu.regs := r } _ _ _ rfl rfl]

variable {ea : EA} {i : Instr}

theorem operandAddr_of_mem (ho : (resolveEA ea s).1 = .mem pa) : s.operandAddr ea = some pa := by
  rw [State.operandAddr, ho]

theorem resolveEA_mem_of_cls (s : State) (h : ea.cls = .mem) : ∃ pa, (resolveEA ea s).1 = .mem pa := by
  cases ea with
  | reg | imm8 | imm16 => nomatch h
  | preDec | postInc | ind | disp8 | disp16 | abs8 | abs16 => exact ⟨_, rfl⟩

/-- An instruction that writes its memory operand without reading it, then the flags. -/
theorem writesOperand_of_exec {v : Word} {f : Nzvc} (ho : (resolveEA ea s).1 = .mem pa)
    (h : exec i s = .next ((memWrite ea.size pa v (resolveEA ea s).2).setNzvc f)) (hv : v.toNat < 2 ^ ea.size.bits) :
    WritesOperand i ea v.toNat f (resolveEA ea s).2 s := by
  obtain ⟨r, hu⟩ : ∃ r, (resolveEA ea s).2 = { s with cpu.regs := r } := ⟨_, resolveEA_sameButRegs ea s⟩
  obtain ⟨hother, hstepped⟩ := resolveEA_steppedRegs ea s
  have hregs : ∀ m, ((memWrite ea.size pa v (resolveEA ea s).2).setNzvc f).reg m = (resolveEA ea s).2.reg m :=
    fun m => memWrite_reg _ _ _ _ m
  have hofNat : BitVec.ofNat 16 v.toNat = v := (BitVec.ofNat_toNat 16 v).trans (BitVec.setWidth_eq v)
  refine ⟨_, h, nzvc_setNzvc _ f, ⟨?control, ?side, fun k hk => (sr_setNzvc_high _ f k hk).trans ?sr,
    ⟨fun m _ h => (hregs m).trans (hother m List.not_mem_nil h), fun m _ _ => hregs m⟩, ?slot, ?arrays⟩, ?value⟩
  case control => rw [hu]; exact memWrite_sameControl { s with cpu.regs := r } _ _ v
  case side => rw [hu]; exact memWrite_mainSide { s with cpu.regs := r } _ _ v
  case sr => rw [memWrite_sr, resolveEA_sr]
  case slot => rw [operandAddr_of_mem ho]; exact (memWrite_excSlot _ _ _ v).trans (by rw [resolveEA_excSlot])
  case arrays =>
    simp only [operandAddr_of_mem ho]
    rw [hofNat, hu]
    exact ⟨(memWrite_withRegs_arraysKept s _ pa v r).trans_kept (setNzvc_arrayByte _ f),
      fun hram => memWrite_sameOutside (s := { s with cpu.regs := r }) v hram⟩
  case value =>
    simp only [ho, hofNat]
    refine ⟨rfl, fun ha hram => ?_⟩
    rw [hu]
    exact Eq.trans (valueAt_of_stored (s := { s with cpu.regs := r }) ⟨rfl, rfl, rfl⟩ ha hram) (Nat.mod_eq_of_lt hv)

/-- A move of a value at the operand's width to memory is a store (R76, R77, R179). -/
theorem storesTo_of_exec {v : Word} (ho : (resolveEA ea s).1 = .mem pa)
    (h : exec i s = .next (moveToMem ea.size pa (narrow ea.size v) (resolveEA ea s).2)) : storesTo i ea v.toNat s := by
  have hlt : (narrow ea.size v).toNat < 2 ^ ea.size.bits := by
    rw [toNat_narrow]
    exact Nat.mod_lt _ (Nat.two_pow_pos _)
  have hstore := writesOperand_of_exec ho h hlt
  rwa [logicFlags_narrow, logicFlags_eq, toNat_narrow, resolveEA_nzvc] at hstore

/-- The general format writes to memory what `v` gives after the specifier's side effect (R171). -/
theorem storesTo_of_general {v : State → Word} (hmem : ea.cls = .mem)
    (h : exec i s = general true ea s fun o s1 =>
      (writeOp ea.size o (narrow ea.size (v s1)) s1).setNzvc (logicFlags ea.size (narrow ea.size (v s1)) s1.nzvc)) :
    storesTo i ea (v (resolveEA ea s).2).toNat s := by
  obtain ⟨pa, ho⟩ := resolveEA_mem_of_cls s hmem
  refine storesTo_of_exec ho (h.trans ?_)
  rw [general, ho]
  rfl

/-- Settles O12: the general forms by `storesTo_of_general`, the short forms by `storesTo_of_exec`. -/
theorem stores : Obligations.Stores := by
  refine fun s ea => ⟨fun hmem rs => ?register, fun hmem i => ?imm8, fun hmem hword i => ?imm16,
    fun _ _ _ => storesTo_of_exec rfl rfl, fun _ _ _ => storesTo_of_exec rfl rfl⟩
  case register =>
    refine storesTo_of_general (v := fun s1 => s1.reg rs) hmem ?_
    change execMovGStore rs ea s = _
    rw [execMovGStore, hmem]
    rfl
  case imm8 =>
    rw [← toNat_sext16]
    refine storesTo_of_general (v := fun _ => sext16 i) hmem ?_
    change execMovGImm8 i ea s = _
    rw [execMovGImm8, hmem]
    rfl
  case imm16 =>
    refine storesTo_of_general (v := fun _ => i) hmem ?_
    change execMovGImm16 i ea s = _
    rw [execMovGImm16, hmem, hword]
    rfl

end Sys2Proof.Machine
end

section
/-! Proofs. One push and one pop (R75, R77, R170). -/

namespace Sys2Proof.Machine

variable (s : State) (v : Word)

/-- The stack pointer goes down first, then the word is stored there (R170). -/
theorem push16_eq : push16 v s = memWrite .word s.pushAddr v (s.setReg .r7 (s.reg .r7 - 2#16)) := rfl

theorem pop16_state : (pop16 s).2 = (memRead .word s.popAddr s).2.setReg .r7 (s.reg .r7 + 2#16) := by
  rw [← memRead_reg s s.popAddr .word]
  rfl

theorem push16_excSlot : (push16 v s).cpu.excSlot = slotAfterAccess .word (some s.pushAddr) s.cpu.excSlot :=
  memWrite_excSlot (s.setReg .r7 (s.reg .r7 - 2#16)) .word s.pushAddr v

theorem pop16_excSlot : (pop16 s).2.cpu.excSlot = slotAfterAccess .word (some s.popAddr) s.cpu.excSlot :=
  memRead_excSlot s .word s.popAddr

theorem push16_sameControl : SameControl s (push16 v s) := by simp [SameControl]

theorem push16_mainSide : MainSide s (push16 v s) := by simp [MainSide]

theorem pop16_sameControl : SameControl s (pop16 s).2 := by simp [SameControl]

theorem pop16_mainSide : MainSide s (pop16 s).2 := by simp [MainSide]

theorem pop16_arraysKept : ArraysKept s (pop16 s).2 := by
  intro g
  cases g <;> simp [State.arrayByte]

variable {s}

/-- A push to RAM changes RAM, R[7] and the slot alone, and its word reads back. -/
theorem push16_ram (h : s.ramAt .word s.pushAddr = true) : SameOutside s (push16 v s) ∧
    (∀ g, g ∉ (accessBytes .word s.pushAddr).map s.target → (push16 v s).arrayByte g = s.arrayByte g) ∧
    (s.arraysOk = true → (push16 v s).arraysOk = true ∧ (push16 v s).valueAt .word s.pushAddr = v.toNat) := by
  have hram : (s.setReg .r7 (s.reg .r7 - 2#16)).ramAt .word s.pushAddr = true := h
  rw [push16_eq]
  refine ⟨memWrite_sameOutside v hram, fun g hg => ?_, fun ha => ?_⟩
  · have hg' : g ≠ s.target (evenBelow s.pushAddr) ∧ g ≠ s.target (evenBelow s.pushAddr + 1#20) := by
      simpa [accessBytes] using hg
    exact (memWrite_arraysKeptBut v hram g hg'.1 hg'.2).trans (setReg_arrayByte s .r7 _ g)
  · have ha' : (s.setReg .r7 (s.reg .r7 - 2#16)).arraysOk = true := ha
    exact ⟨memWrite_arraysOk v ha' hram, (valueAt_memWrite v ha' hram).trans (Nat.mod_eq_of_lt v.isLt)⟩

theorem pushed_push16 : Pushed v s (push16 v s) := by
  refine ⟨rfl, ?_, fun m hm => push16_reg s v m hm, push16_sameControl s v, push16_mainSide s v, push16_sr s v,
    memWrite_withRegs_arraysKept s .word s.pushAddr v _, push16_excSlot s v, fun h => ?_⟩
  · rw [push16_sp, BitVec.toNat_sub, Nat.add_comm]
    rfl
  · obtain ⟨hout, -, hvalue⟩ := push16_ram v h
    exact ⟨hout, fun ha => (hvalue ha).2⟩

/-- A pop from plain memory gives the word there, and changes R[7] and the slot alone. -/
theorem pop16_plain (h : s.plainAt .word s.popAddr = true) : (pop16 s).1.toNat = s.valueAt .word s.popAddr ∧
    (pop16 s).2 = ({ s with cpu.excSlot := slotAfterAccess .word (some s.popAddr) s.cpu.excSlot } : State).setReg .r7
      (s.reg .r7 + 2#16) := by
  obtain ⟨hvalue, hstate⟩ := memRead_plain (s := s) ⟨rfl, rfl, rfl⟩ h
  exact ⟨hvalue, by rw [pop16_state, hstate]⟩

theorem popped_pop16 : Popped (pop16 s).1 s (pop16 s).2 := by
  refine ⟨rfl, pop16_state s, ?_, fun m hm => pop16_reg s m hm, pop16_sameControl s, pop16_mainSide s, pop16_sr s,
    pop16_arraysKept s, pop16_excSlot s, fun h => ?_⟩
  · rw [pop16_sp, BitVec.toNat_add]
    rfl
  · obtain ⟨hvalue, hstate⟩ := pop16_plain h
    rw [hstate]
    exact ⟨⟨rfl, rfl, rfl, rfl, rfl⟩, hvalue⟩

end Sys2Proof.Machine
end

section
/-! Proofs. The registers a list names, and the words they take on the stack (R75, R201, R202). -/

namespace Sys2Proof.Machine

variable {s t : State} {l : Byte}

/-! ## The list -/

theorem length_filter_listed (l : Byte) (ns : List Reg) :
    (ns.filter fun n => l.getLsbD n.toNat).length = ((ns.map Reg.toNat).filter fun j => l.getLsbD j).length := by
  rw [List.filter_map, List.length_map]
  rfl

theorem length_listedRegs (l : Byte) : (listedRegs l).length = listedBelow l 7 := length_filter_listed l listRegs

theorem r7_not_mem_listedRegs (l : Byte) : Reg.r7 ∉ listedRegs l :=
  fun h => absurd (List.mem_of_mem_filter h) (by decide)

theorem mem_listedRegs_iff {r : Reg} (hr : r ≠ .r7) : r ∈ listedRegs l ↔ l.getLsbD r.toNat = true := by
  have hmem : r ∈ listRegs := by
    cases r with
    | r7 => exact absurd rfl hr
    | r0 | r1 | r2 | r3 | r4 | r5 | r6 => decide
  exact List.mem_filter.trans (and_iff_right hmem)

/-- A listed register stands behind those of lower number, and once. -/
theorem listedRegs_split {r : Reg} (hr : r ≠ .r7) (hl : l.getLsbD r.toNat = true) :
    ∃ lower higher, listedRegs l = lower ++ r :: higher ∧ lower.length = listedBelow l r.toNat ∧ r ∉ higher := by
  have hsplit : ∃ below above, listRegs = below ++ r :: above ∧ below.map Reg.toNat = List.range r.toNat ∧
      r ∉ above := by
    refine ⟨listRegs.take r.toNat, listRegs.drop (r.toNat + 1), ?_⟩
    cases r with
    | r7 => exact absurd rfl hr
    | r0 | r1 | r2 | r3 | r4 | r5 | r6 => decide
  obtain ⟨below, above, hregs, hbelow, habove⟩ := hsplit
  refine ⟨below.filter fun n => l.getLsbD n.toNat, above.filter fun n => l.getLsbD n.toNat, ?_, ?_,
    fun h => habove (List.mem_of_mem_filter h)⟩
  · change listRegs.filter _ = _
    rw [hregs, List.filter_append, List.filter_cons, if_pos hl]
  · rw [length_filter_listed, hbelow, listedBelow]

/-! ## Offsets -/

/-- Words up from an offset: `a` words, then `b` more. -/
theorem wordsUp_add (base : Word) (a b : Nat) :
    base + BitVec.ofNat 16 (2 * (a + b)) = base + BitVec.ofNat 16 (2 * a) + BitVec.ofNat 16 (2 * b) := by
  rw [Nat.mul_add, BitVec.ofNat_add, BitVec.add_assoc]

theorem wordsUp_zero (base : Word) : base + BitVec.ofNat 16 (2 * 0) = base := BitVec.add_zero base

/-- Stepping by whole words keeps the parity of R[7]. -/
theorem wordsUp_parity (base : Word) (n : Nat) : (base + BitVec.ofNat 16 (2 * n)).toNat % 2 = base.toNat % 2 := by
  rw [BitVec.toNat_add, BitVec.toNat_ofNat]
  omega

/-! ## The slot -/

/-- The slot after `n` words are pushed or popped with R[7] at `sp`: an odd R[7] requests AddressError (R75, R170, R505). -/
def stackSlot (sp : Word) (n : Nat) (slot : Option ExcKind) : Option ExcKind :=
  if sp.toNat % 2 = 1 ∧ 0 < n then slotAfter .addressError slot else slot

theorem slotAfter_idem (k : ExcKind) (slot : Option ExcKind) : slotAfter k (slotAfter k slot) = slotAfter k slot := by
  by_cases h : slotPrio slot < k.prio
  · have hslot : slotAfter k slot = some k := if_pos h
    rw [hslot]
    exact if_neg (Nat.lt_irrefl _)
  · have hslot : slotAfter k slot = slot := if_neg h
    rw [hslot, hslot]

theorem stackSlot_zero (sp : Word) (slot : Option ExcKind) : stackSlot sp 0 slot = slot := if_neg (by omega)

/-- One word. -/
theorem slotAfterAccess_busAddr (page : Byte) (sp : Word) (slot : Option ExcKind) :
    slotAfterAccess .word (some (busAddr page sp)) slot = stackSlot sp 1 slot := by
  have hparity : (busAddr page sp).toNat % 2 = sp.toNat % 2 := by
    rw [toNat_busAddr]
    omega
  rw [slotAfterAccess_word, hparity]
  simp [stackSlot]

/-- Words at offsets of one parity request once. -/
theorem stackSlot_stackSlot {sp sp' : Word} (h : sp'.toNat % 2 = sp.toNat % 2) (m n : Nat) (slot : Option ExcKind) :
    stackSlot sp' m (stackSlot sp n slot) = stackSlot sp (n + m) slot := by
  unfold stackSlot
  rw [h]
  by_cases hodd : sp.toNat % 2 = 1
  · rcases Nat.eq_zero_or_pos n with rfl | hn
    · simp
    · simp [hodd, hn, slotAfter_idem]
  · simp [hodd]

/-- As many words back request nothing new. -/
theorem stackSlot_back {sp sp' : Word} (h : sp'.toNat % 2 = sp.toNat % 2) (n : Nat) (slot : Option ExcKind) :
    stackSlot sp' n (stackSlot sp n slot) = stackSlot sp n slot := by
  have hpos : 0 < n + n ↔ 0 < n := by omega
  rw [stackSlot_stackSlot h]
  simp only [stackSlot, hpos]

/-! ## The bytes of the words -/

theorem stackBytes_add (s : State) (base : Word) (a b : Nat) :
    s.stackBytes base (a + b) = s.stackBytes base a ++ s.stackBytes (base + BitVec.ofNat 16 (2 * a)) b := by
  unfold State.stackBytes
  rw [List.range_add, List.flatMap_append, List.flatMap_map]
  simp only [wordsUp_add]

theorem stackBytes_one (s : State) (base : Word) :
    s.stackBytes base 1 = accessBytes .word (busAddr s.cpu.tp base) := by
  simp [State.stackBytes]

theorem stackBytes_congr (h : t.cpu.tp = s.cpu.tp) : t.stackBytes = s.stackBytes := by
  unfold State.stackBytes
  rw [h]

theorem distinctRam_congr (h : ∀ pb, t.target pb = s.target pb) : t.distinctRam = s.distinctRam := by
  have htarget : t.target = s.target := funext h
  have hplain : t.plainRam = s.plainRam := funext fun pb => plainRam_congr (h pb)
  funext as
  rw [State.distinctRam, htarget, hplain, State.distinctRam]

theorem distinctRam_append {xs ys : List BusAddr} : s.distinctRam (xs ++ ys) = true ↔
    s.distinctRam xs = true ∧ s.distinctRam ys = true ∧ ∀ g ∈ xs.map s.target, g ∉ ys.map s.target := by
  simp only [State.distinctRam, List.all_append, List.map_append, List.nodup_append', Bool.and_eq_true,
    decide_eq_true_eq, List.Disjoint]
  tauto

end Sys2Proof.Machine
end

section
/-! Proofs. STM: the listed registers pushed, the lowest number at the lowest address (R202). -/

namespace Sys2Proof.Machine

variable {s : State} {l : Byte}

/-- The registers of a list pushed so that the first lies at the lowest address: the last goes first. -/
def pushRegs (ns : List Reg) (s : State) : State := ns.foldr (fun n t => push16 (t.reg n) t) s

theorem pushRegs_cons (n : Reg) (ns : List Reg) (s : State) :
    pushRegs (n :: ns) s = push16 ((pushRegs ns s).reg n) (pushRegs ns s) := rfl

theorem pushRegs_append (ns ms : List Reg) (s : State) : pushRegs (ns ++ ms) s = pushRegs ns (pushRegs ms s) :=
  List.foldr_append

theorem pushList_append (l : Byte) (ns ms : List Reg) (s : State) :
    pushList l (ns ++ ms) s = pushList l ms (pushList l ns s) := by
  induction ns generalizing s with
  | nil => rfl
  | cons n ns ih => exact ih _

/-- The model's loop pushes what the list names, the highest number first. -/
theorem pushList_reverse (l : Byte) (ns : List Reg) (s : State) :
    pushList l ns.reverse s = pushRegs (ns.filter fun n => l.getLsbD n.toNat) s := by
  induction ns with
  | nil => rfl
  | cons n ns ih =>
    rw [List.reverse_cons, pushList_append, ih, List.filter_cons, pushList, pushList]
    split_ifs <;> rfl

theorem exec_stm (h : l.getLsbD 7 = false) (s : State) : exec (.stm l) s = .next (pushRegs (listedRegs l) s) := by
  change execStm l s = _
  rw [execStm, h, pushList_reverse]
  rfl

/-! ## Wherever the stack lies -/

theorem pushedAll_append {ns ms : List Reg} {s t u : State} (h : PushedAll ns s t) (g : PushedAll ms t u) :
    PushedAll (ns ++ ms) s u := by
  induction ns generalizing s with
  | nil => exact h ▸ g
  | cons n ns ih =>
    obtain ⟨w, hpushed, hrest⟩ := h
    exact ⟨w, hpushed, ih hrest⟩

theorem pushedAll_pushRegs (ns : List Reg) (s : State) : PushedAll ns.reverse s (pushRegs ns s) := by
  induction ns with
  | nil => rfl
  | cons n ns ih =>
    rw [List.reverse_cons]
    exact pushedAll_append ih ⟨_, pushed_push16 _, rfl⟩

/-- Pushes change memory, R[7] and the slot alone. -/
theorem pushRegs_frame (ns : List Reg) (s : State) : SameControl s (pushRegs ns s) ∧ MainSide s (pushRegs ns s) ∧
    (pushRegs ns s).cpu.sr = s.cpu.sr ∧ OtherRegs .r7 s (pushRegs ns s) := by
  induction ns with
  | nil => exact ⟨by simp [SameControl, pushRegs], by simp [MainSide, pushRegs], rfl, fun _ _ => rfl⟩
  | cons n ns ih =>
    obtain ⟨hcontrol, hside, hsr, hother⟩ := ih
    exact ⟨hcontrol.trans (push16_sameControl _ _), hside.trans (push16_mainSide _ _), (push16_sr _ _).trans hsr,
      fun m hm => (push16_reg _ _ m hm).trans (hother m hm)⟩

/-- R[7] ends where as many words as the list has registers reach up to where it was. -/
theorem pushRegs_sp (ns : List Reg) (s : State) :
    (pushRegs ns s).reg .r7 + BitVec.ofNat 16 (2 * ns.length) = s.reg .r7 := by
  induction ns with
  | nil => exact wordsUp_zero _
  | cons n ns ih =>
    rw [pushRegs_cons, push16_sp, List.length_cons, Nat.add_comm, wordsUp_add]
    exact (congrArg (· + _) (BitVec.sub_add_cancel _ _)).trans ih

theorem pushRegs_excSlot (ns : List Reg) (s : State) :
    (pushRegs ns s).cpu.excSlot = stackSlot (s.reg .r7) ns.length s.cpu.excSlot := by
  induction ns with
  | nil => exact (stackSlot_zero _ _).symm
  | cons n ns ih =>
    have hparity : ((pushRegs ns s).reg .r7 - 2#16).toNat % 2 = (s.reg .r7).toNat % 2 := by
      have h := wordsUp_parity ((pushRegs (n :: ns) s).reg .r7) (n :: ns).length
      rw [pushRegs_sp] at h
      rw [h, pushRegs_cons, push16_sp]
    rw [pushRegs_cons, push16_excSlot, State.pushAddr, slotAfterAccess_busAddr, ih, stackSlot_stackSlot hparity]
    rfl

/-! ## In RAM -/

/-- The bytes that pushing the registers of a list stores, from the last word's address up. -/
def pushedBytes (ns : List Reg) (s : State) : List BusAddr := s.stackBytes ((pushRegs ns s).reg .r7) ns.length

theorem pushRegs_tp (ns : List Reg) (s : State) : (pushRegs ns s).cpu.tp = s.cpu.tp := by
  obtain ⟨⟨-, -, -, -, htp, -⟩, -⟩ := pushRegs_frame ns s
  exact htp

/-- What is pushed later lies below. -/
theorem pushedBytes_append (ns ms : List Reg) (s : State) :
    pushedBytes (ns ++ ms) s = pushedBytes ns (pushRegs ms s) ++ pushedBytes ms s := by
  unfold pushedBytes
  rw [pushRegs_append, List.length_append, stackBytes_add, pushRegs_sp, stackBytes_congr (pushRegs_tp ms s)]

theorem pushedBytes_cons (n : Reg) (ns : List Reg) (s : State) :
    pushedBytes (n :: ns) s = accessBytes .word (pushRegs ns s).pushAddr ++ pushedBytes ns s := by
  have hword : pushedBytes [n] (pushRegs ns s) = accessBytes .word (pushRegs ns s).pushAddr := by
    rw [State.pushAddr, ← push16_sp]
    exact stackBytes_one _ _
  rw [← hword]
  exact pushedBytes_append [n] ns s

/-- Words pushed to RAM reach their own bytes alone. -/
theorem pushRegs_ram {ns : List Reg} (h : s.distinctRam (pushedBytes ns s) = true) : SameOutside s (pushRegs ns s) ∧
    (∀ pb, (pushRegs ns s).target pb = s.target pb) ∧
    (∀ g, g ∉ (pushedBytes ns s).map s.target → (pushRegs ns s).arrayByte g = s.arrayByte g) ∧
    (s.arraysOk = true → (pushRegs ns s).arraysOk = true) := by
  induction ns with
  | nil => exact ⟨⟨rfl, rfl, rfl, rfl, rfl⟩, fun _ => rfl, fun _ _ => rfl, id⟩
  | cons n ns ih =>
    rw [pushedBytes_cons] at h ⊢
    obtain ⟨hword, hrest, -⟩ := distinctRam_append.1 h
    obtain ⟨hout, htarget, harrays, hok⟩ := ih hrest
    rw [← distinctRam_congr htarget] at hword
    obtain ⟨hout', harrays', hok'⟩ := push16_ram ((pushRegs ns s).reg n) hword
    have htarget' : ∀ pb, (pushRegs (n :: ns) s).target pb = (pushRegs ns s).target pb :=
      target_congr (push16_params _ _) hout'.1
    refine ⟨hout.trans hout', fun pb => (htarget' pb).trans (htarget pb), fun g hg => ?_, fun ha => (hok' (hok ha)).1⟩
    rw [List.map_append, List.mem_append, not_or] at hg
    exact (harrays' g (by rw [funext htarget]; exact hg.1)).trans (harrays g hg.2)

/-- A byte of memory reads as the array it is in says. -/
theorem peek8_of_arrayByte {t : State} {pa : BusAddr} (hplain : s.plainByte pa = true) (htarget : t.target pa = s.target pa)
    (h : t.arrayByte (s.target pa) = s.arrayByte (s.target pa)) : peek8 t pa = peek8 s pa := by
  have hafter := arrayByte_target ((plainByte_congr htarget).trans hplain)
  rw [htarget, h, arrayByte_target hplain] at hafter
  exact (Option.some.inj hafter).symm

/-- A register pushed to RAM stands above the words pushed after it. -/
theorem pushRegs_value {lower higher : List Reg} {r : Reg} (hr : r ≠ .r7) (ha : s.arraysOk = true)
    (h : s.distinctRam (pushedBytes (lower ++ r :: higher) s) = true) :
    (pushRegs (lower ++ r :: higher) s).valueAt .word (pushRegs higher s).pushAddr = (s.reg r).toNat := by
  rw [pushedBytes_append] at h
  obtain ⟨hlower, hfrom, hdisjoint⟩ := distinctRam_append.1 h
  obtain ⟨-, htarget, -, -⟩ := pushRegs_ram hfrom
  rw [← distinctRam_congr htarget] at hlower
  obtain ⟨-, htarget', harrays', -⟩ := pushRegs_ram hlower
  rw [pushedBytes_cons] at hfrom hdisjoint
  obtain ⟨hword, hhigher, -⟩ := distinctRam_append.1 hfrom
  obtain ⟨-, htarget'', -, hok⟩ := pushRegs_ram hhigher
  have hplain : s.plainAt .word (pushRegs higher s).pushAddr = true := plainAt_of_ramAt hword
  rw [← distinctRam_congr htarget''] at hword
  obtain ⟨-, -, hstored⟩ := push16_ram ((pushRegs higher s).reg r) hword
  obtain ⟨-, -, -, hother⟩ := pushRegs_frame higher s
  calc (pushRegs (lower ++ r :: higher) s).valueAt .word (pushRegs higher s).pushAddr
      = (pushRegs (r :: higher) s).valueAt .word (pushRegs higher s).pushAddr := ?later
    _ = ((pushRegs higher s).reg r).toNat := (hstored (hok ha)).2
    _ = (s.reg r).toNat := congrArg BitVec.toNat (hother r hr)
  case later =>
    rw [pushRegs_append]
    refine valueAt_of_peek8 fun pb hpb => peek8_of_arrayByte ?_ (htarget' pb) (harrays' _ fun hin => ?_)
    · exact (plainByte_congr (htarget pb)).trans (List.all_eq_true.1 hplain pb hpb)
    · rw [funext htarget] at hin
      exact hdisjoint _ hin (List.mem_map_of_mem (List.mem_append_left _ hpb))

end Sys2Proof.Machine
end

section
/-! Proofs. LDM: the listed registers popped, the lowest number first (R201). -/

namespace Sys2Proof.Machine

variable {s : State} {l : Byte}

/-- The registers of a list popped, the first first. -/
def popRegs (ns : List Reg) (s : State) : State := ns.foldl (fun t n => (pop16 t).2.setReg n (pop16 t).1) s

theorem popRegs_cons (n : Reg) (ns : List Reg) (s : State) :
    popRegs (n :: ns) s = popRegs ns ((pop16 s).2.setReg n (pop16 s).1) := rfl

theorem popRegs_append (ns ms : List Reg) (s : State) : popRegs (ns ++ ms) s = popRegs ms (popRegs ns s) :=
  List.foldl_append

/-- The model's loop pops what the list names. -/
theorem popList_eq (l : Byte) (ns : List Reg) (s : State) :
    popList l ns s = popRegs (ns.filter fun n => l.getLsbD n.toNat) s := by
  induction ns generalizing s with
  | nil => rfl
  | cons n ns ih =>
    rw [popList, ih, List.filter_cons]
    split_ifs <;> rfl

theorem exec_ldm (h : l.getLsbD 7 = false) (s : State) : exec (.ldm l) s = .next (popRegs (listedRegs l) s) := by
  change execLdm l s = _
  rw [execLdm, h, popList_eq]
  rfl

/-! ## Wherever the stack lies -/

theorem poppedAll_popRegs (ns : List Reg) (s : State) : PoppedAll ns s (popRegs ns s) := by
  induction ns generalizing s with
  | nil => rfl
  | cons n ns ih => exact ⟨_, _, popped_pop16, ih _⟩

/-- Pops change the popped registers, R[7], the slot and what reading memory changes. -/
theorem popRegs_frame (ns : List Reg) (s : State) : SameControl s (popRegs ns s) ∧ MainSide s (popRegs ns s) ∧
    (popRegs ns s).cpu.sr = s.cpu.sr ∧ ArraysKept s (popRegs ns s) := by
  induction ns generalizing s with
  | nil => exact ⟨by simp [SameControl, popRegs], by simp [MainSide, popRegs], rfl, fun _ => rfl⟩
  | cons n ns ih =>
    have hset : SameButRegsSr (pop16 s).2 ((pop16 s).2.setReg n (pop16 s).1) := rfl
    obtain ⟨hcontrol, hside, harrays, -⟩ := hset.kept
    obtain ⟨hcontrol', hside', hsr', harrays'⟩ := ih ((pop16 s).2.setReg n (pop16 s).1)
    exact ⟨(pop16_sameControl s).trans (hcontrol.trans hcontrol'), (pop16_mainSide s).trans (hside.trans hside'),
      hsr'.trans (pop16_sr s), (pop16_arraysKept s).trans (harrays.trans harrays')⟩

theorem popRegs_reg_other {ns : List Reg} {m : Reg} (hm : m ≠ .r7) (h : m ∉ ns) (s : State) :
    (popRegs ns s).reg m = s.reg m := by
  induction ns generalizing s with
  | nil => rfl
  | cons n ns ih =>
    obtain ⟨hn, hns⟩ := not_or.1 (mt List.mem_cons.2 h)
    exact (ih hns _).trans ((reg_setReg_other _ _ _ _ hn).trans (pop16_reg s m hm))

theorem popRegs_sp {ns : List Reg} (h : Reg.r7 ∉ ns) (s : State) :
    (popRegs ns s).reg .r7 = s.reg .r7 + BitVec.ofNat 16 (2 * ns.length) := by
  induction ns generalizing s with
  | nil => exact (wordsUp_zero _).symm
  | cons n ns ih =>
    obtain ⟨hn, hns⟩ := not_or.1 (mt List.mem_cons.2 h)
    rw [popRegs_cons, ih hns, reg_setReg_other _ _ _ _ hn, pop16_sp, List.length_cons, Nat.add_comm, wordsUp_add]

theorem popRegs_excSlot {ns : List Reg} (h : Reg.r7 ∉ ns) (s : State) :
    (popRegs ns s).cpu.excSlot = stackSlot (s.reg .r7) ns.length s.cpu.excSlot := by
  induction ns generalizing s with
  | nil => exact (stackSlot_zero _ _).symm
  | cons n ns ih =>
    obtain ⟨hn, hns⟩ := not_or.1 (mt List.mem_cons.2 h)
    have hparity : (s.reg .r7 + 2#16).toNat % 2 = (s.reg .r7).toNat % 2 := wordsUp_parity _ 1
    rw [popRegs_cons, ih hns, reg_setReg_other _ _ _ _ hn, pop16_sp, setReg_cpu_excSlot, pop16_excSlot, State.popAddr,
      slotAfterAccess_busAddr, stackSlot_stackSlot hparity, List.length_cons, Nat.add_comm]

/-! ## In plain memory -/

/-- `t` is `s` but for the general registers and the slot. -/
def SameButRegsSlot (s t : State) : Prop := t = { s with cpu.regs := t.cpu.regs, cpu.excSlot := t.cpu.excSlot }

theorem SameButRegsSlot.trans {t u : State} (h : SameButRegsSlot s t) (g : SameButRegsSlot t u) : SameButRegsSlot s u := by
  obtain ⟨r, x, rfl⟩ : ∃ r x, t = { s with cpu.regs := r, cpu.excSlot := x } := ⟨_, _, h⟩
  exact g

/-- General registers and the slot do not reach the bus. -/
theorem SameButRegsSlot.bus {t : State} (h : SameButRegsSlot s t) :
    SameBytes s t ∧ t.plainByte = s.plainByte ∧ t.stackBytes = s.stackBytes ∧ t.cpu.tp = s.cpu.tp := by
  obtain ⟨r, x, rfl⟩ : ∃ r x, t = { s with cpu.regs := r, cpu.excSlot := x } := ⟨_, _, h⟩
  exact ⟨⟨rfl, rfl, rfl⟩, rfl, rfl, rfl⟩

/-- Pops from plain memory have no side effect outside the CPU (R82). -/
theorem popRegs_plain {ns : List Reg} (h : Reg.r7 ∉ ns)
    (hplain : (s.stackBytes (s.reg .r7) ns.length).all s.plainByte = true) : SameButRegsSlot s (popRegs ns s) := by
  induction ns generalizing s with
  | nil => rfl
  | cons n ns ih =>
    obtain ⟨hn, hns⟩ := not_or.1 (mt List.mem_cons.2 h)
    rw [List.length_cons, Nat.add_comm, stackBytes_add, stackBytes_one, List.all_append, Bool.and_eq_true] at hplain
    have hpop : SameButRegsSlot s ((pop16 s).2.setReg n (pop16 s).1) := by
      rw [(pop16_plain hplain.1).2]
      rfl
    obtain ⟨-, hbyte, hstack, -⟩ := hpop.bus
    refine hpop.trans (ih hns ?_)
    rw [reg_setReg_other _ _ _ _ hn, pop16_sp, hbyte, hstack]
    exact hplain.2

/-- A popped register holds the word that stood above those popped before it. -/
theorem popRegs_value {lower higher : List Reg} {r : Reg} (hr : r ≠ .r7) (hhigher : r ∉ higher)
    (h : Reg.r7 ∉ lower ++ r :: higher)
    (hplain : (s.stackBytes (s.reg .r7) (lower ++ r :: higher).length).all s.plainByte = true) :
    ((popRegs (lower ++ r :: higher) s).reg r).toNat =
      s.valueAt .word (busAddr s.cpu.tp (s.reg .r7 + BitVec.ofNat 16 (2 * lower.length))) := by
  rw [List.mem_append, not_or] at h
  rw [List.length_append, stackBytes_add, List.all_append, List.length_cons, Nat.add_comm _ 1, stackBytes_add,
    stackBytes_one, List.all_append, Bool.and_eq_true, Bool.and_eq_true] at hplain
  obtain ⟨hlower, hword, -⟩ := hplain
  obtain ⟨hbytes, hbyte, -, htp⟩ := (popRegs_plain h.1 hlower).bus
  have haddr : (popRegs lower s).popAddr = busAddr s.cpu.tp (s.reg .r7 + BitVec.ofNat 16 (2 * lower.length)) := by
    rw [State.popAddr, popRegs_sp h.1, htp]
  have hpop : ((pop16 (popRegs lower s)).1).toNat = (popRegs lower s).valueAt .word (popRegs lower s).popAddr := by
    refine (pop16_plain ?_).1
    rw [State.plainAt, hbyte, haddr]
    exact hword
  rw [popRegs_append, popRegs_cons, popRegs_reg_other hr hhigher, reg_setReg_same, hpop, haddr]
  exact valueAt_congr hbytes hword

end Sys2Proof.Machine
end

section
/-! Proofs. STM and LDM (R201, R202), and LDM as the inverse of STM. -/

namespace Sys2Proof.Machine

variable {s : State} {l : Byte}

theorem exec_list_refused (h : l.getLsbD 7 = true) (s : State) :
    exec (.ldm l) s = .refused .listNamesSp ∧ exec (.stm l) s = .refused .listNamesSp :=
  ⟨if_pos h, if_pos h⟩

/-- A listed register gets the word as many words up as the list names registers below it (R201). -/
theorem ldm_value (hplain : (s.stackBytes (s.reg .r7) (listedRegs l).length).all s.plainByte = true) {r : Reg}
    (hr : r ≠ .r7) (hl : l.getLsbD r.toNat = true) :
    ((popRegs (listedRegs l) s).reg r).toNat =
      s.valueAt .word (busAddr s.cpu.tp (s.reg .r7 + BitVec.ofNat 16 (2 * listedBelow l r.toNat))) := by
  have hsp := r7_not_mem_listedRegs l
  obtain ⟨lower, higher, hsplit, hlength, hhigher⟩ := listedRegs_split hr hl
  rw [hsplit] at hplain hsp ⊢
  rw [← hlength]
  exact popRegs_value hr hhigher hsp hplain

/-- General registers do not reach the bus. -/
theorem valueAt_withRegs (s : State) (sz : Size) (pa : BusAddr) (rs : Regs) :
    State.valueAt { s with cpu.regs := rs } sz pa = s.valueAt sz pa := by
  refine valueAt_of_peek8 fun pb _ => ?_
  have htarget : State.target { s with cpu.regs := rs } pb = s.target pb := rfl
  unfold peek8 read8
  rw [htarget]
  cases s.target pb with
  | shared i => simp only [windowRead]; split_ifs <;> rfl
  | dev i => simp only [devRead]; split <;> rfl
  | pcm r => simp only [pcmRead]; split <;> rfl
  | _ => rfl

section stack
variable (ha : s.arraysOk = true) (hram : s.distinctRam (pushedBytes (listedRegs l) s) = true)
include ha hram

/-- A listed register lies on the stack as many words up as the list names registers below it (R202). -/
theorem stm_value {r : Reg} (hr : r ≠ .r7) (hl : l.getLsbD r.toNat = true) :
    (pushRegs (listedRegs l) s).valueAt .word (busAddr s.cpu.tp
      ((pushRegs (listedRegs l) s).reg .r7 + BitVec.ofNat 16 (2 * listedBelow l r.toNat))) = (s.reg r).toNat := by
  obtain ⟨lower, higher, hsplit, hlength, -⟩ := listedRegs_split hr hl
  rw [hsplit] at hram ⊢
  have haddr : (pushRegs higher s).pushAddr = busAddr s.cpu.tp
      ((pushRegs (lower ++ r :: higher) s).reg .r7 + BitVec.ofNat 16 (2 * lower.length)) := by
    rw [pushRegs_append, pushRegs_sp, State.pushAddr, pushRegs_tp, ← push16_sp]
    rfl
  rw [← hlength, ← haddr]
  exact pushRegs_value hr ha hram

/-- LDM with the list of an STM before it brings back what the STM stored, whatever the registers hold in between. -/
theorem ldm_stm {t u : State} {rs : Regs} (ht : pushRegs (listedRegs l) s = t) (hrs : rs.r7 = t.reg .r7)
    (hu : popRegs (listedRegs l) { t with cpu.regs := rs } = u) :
    u.reg .r7 = s.reg .r7 ∧
      (∀ r : Reg, r ≠ .r7 → u.reg r = if l.getLsbD r.toNat = true then s.reg r else rs.get r) ∧
      u = { t with cpu.regs := u.cpu.regs } := by
  have hsp := r7_not_mem_listedRegs l
  obtain ⟨-, htarget, -, -⟩ := pushRegs_ram hram
  have hplain : (State.stackBytes { t with cpu.regs := rs } rs.r7 (listedRegs l).length).all
      (State.plainByte { t with cpu.regs := rs }) = true := by
    have hbyte : t.plainByte = s.plainByte := funext fun pb => plainByte_congr (ht ▸ htarget pb)
    have hstack : t.stackBytes = s.stackBytes := stackBytes_congr (ht ▸ pushRegs_tp _ s)
    change (t.stackBytes rs.r7 _).all t.plainByte = true
    rw [hbyte, hstack, hrs, ← ht]
    exact plainByte_of_distinctRam hram
  refine ⟨?sp, fun r hr => ?regs, ?rest⟩
  case sp =>
    rw [← hu, popRegs_sp hsp, ← pushRegs_sp (listedRegs l) s, ht, ← hrs]
    rfl
  case regs =>
    split_ifs with hl
    · refine BitVec.eq_of_toNat_eq ?_
      rw [← hu, ldm_value hplain hr hl, ← stm_value ha hram hr hl, ht, valueAt_withRegs,
        ← pushRegs_tp (listedRegs l) s, ht, ← hrs]
      rfl
    · rw [← hu, popRegs_reg_other hr (mt (mem_listedRegs_iff hr).1 hl)]
      rfl
  case rest =>
    have hslot : u.cpu.excSlot = t.cpu.excSlot := by
      have hparity : rs.r7.toNat % 2 = (s.reg .r7).toNat % 2 := by
        rw [← pushRegs_sp (listedRegs l) s, wordsUp_parity, ht, hrs]
      rw [← hu, popRegs_excSlot hsp, ← ht, pushRegs_excSlot]
      exact stackSlot_back hparity _ _
    have hshape := popRegs_plain hsp hplain
    rw [hu, SameButRegsSlot, hslot] at hshape
    exact hshape

end stack

/-- Settles O14: wherever the stack lies by `pushRegs_frame` and `popRegs_frame`, in memory by `stm_value`, `ldm_value` and
`ldm_stm`. -/
theorem multiRegisterTransfers : Obligations.MultiRegisterTransfers := by
  intro l s n slot
  have hlength : (listedRegs l).length = n := length_listedRegs l
  have hnotSp := r7_not_mem_listedRegs l
  refine ⟨fun h => exec_list_refused h s, fun h => ⟨⟨_, exec_stm h s, ?stm⟩, ⟨_, exec_ldm h s, ?ldm⟩⟩⟩
  case stm =>
    obtain ⟨hcontrol, hside, hsr, hother⟩ := pushRegs_frame (listedRegs l) s
    refine ⟨pushedAll_pushRegs _ s, hcontrol, hside, hsr, hother, ?_, ?_, fun ha hram => ?_⟩
    · rw [← hlength]
      exact eq_sub_of_add_eq (pushRegs_sp _ s)
    · rw [pushRegs_excSlot, hlength]
      rfl
    · rw [← hlength] at hram ⊢
      obtain ⟨hout, -, harrays, -⟩ := pushRegs_ram hram
      exact ⟨fun r hr hl => stm_value ha hram hr hl, harrays, hout,
        fun rs hrs => ⟨_, exec_ldm h _, ldm_stm ha hram rfl hrs rfl⟩⟩
  case ldm =>
    obtain ⟨hcontrol, hside, hsr, harrays⟩ := popRegs_frame (listedRegs l) s
    refine ⟨poppedAll_popRegs _ s, hcontrol, hside, hsr, harrays,
      fun r hr hl => popRegs_reg_other hr (fun hmem => ?_) s, ?_, ?_, fun hplain => ?_⟩
    · exact Bool.false_ne_true (hl.symm.trans ((mem_listedRegs_iff hr).1 hmem))
    · rw [popRegs_sp hnotSp, hlength]
    · rw [popRegs_excSlot hnotSp, hlength]
      rfl
    · rw [← hlength] at hplain
      exact ⟨fun r hr hl => ldm_value hplain hr hl, popRegs_plain hnotSp hplain⟩

end Sys2Proof.Machine
end

section
/-! Proofs. The two ALU helpers as exact arithmetic (R175, R176). -/

namespace Sys2Proof.Machine

variable (sz : Size) (a b : Word) (c : Bool)

/-! ## Bits and signs of numbers -/

/-- The top bit of a number that has no bit above it. -/
theorem testBit_top {w r : Nat} (h : r < 2 ^ (w + 1)) : r.testBit w = decide (2 ^ (w + 1) ≤ 2 * r) := by
  have hpow : 2 ^ (w + 1) = 2 * 2 ^ w := Nat.pow_succ'
  by_cases hr : 2 ^ w ≤ r
  · rw [Nat.testBit_of_two_pow_le_and_two_pow_add_one_gt hr h, decide_eq_true (by omega)]
  · rw [Nat.testBit_lt_two_pow (Nat.not_le.1 hr), decide_eq_false (by omega)]

/-- The top bit at a width. -/
theorem testBit_topOf {r : Nat} (h : r < 2 ^ sz.bits) : r.testBit (sz.bits - 1) = decide (2 ^ sz.bits ≤ 2 * r) := by
  cases sz <;> exact testBit_top h

theorem signedOf_eq (v : Word) :
    signedOf sz.bits (v.toNat % 2 ^ sz.bits) = signedMod (2 ^ sz.bits) (v.toNat % 2 ^ sz.bits) := by
  unfold signedOf signedMod Int.bmod
  cases sz <;> simp only [Size.bits] <;> split_ifs <;> omega

/-- The exact value overflows where its signed remainder is another number (R175, R176). -/
theorem outOfRange_eq (x : Int) : outOfRange sz.bits x = decide (Int.bmod x (2 ^ sz.bits) ≠ x) := by
  rw [outOfRange, ← Bool.decide_or, decide_eq_decide]
  unfold Int.bmod
  cases sz <;> simp only [Size.bits] <;> split_ifs <;> omega

theorem two_pow_bits_le : 2 ^ sz.bits ≤ 0x10000 := by cases sz <;> decide

/-- A number below the width's modulus is its word. -/
theorem toNat_ofNat_of_lt_bits {r : Nat} (h : r < 2 ^ sz.bits) : (BitVec.ofNat 16 r).toNat = r := by
  have hle := two_pow_bits_le sz
  exact Nat.mod_eq_of_lt (by omega)

/-! ## Sums and differences -/

theorem mod_bits_lt (x : Nat) : x % 2 ^ sz.bits < 2 ^ sz.bits := Nat.mod_lt _ (Nat.two_pow_pos _)

theorem sumOf_lt (x y k : Nat) : sumOf (2 ^ sz.bits) x y k < 2 ^ sz.bits := mod_bits_lt sz _

theorem diffOf_lt (x y k : Nat) : diffOf (2 ^ sz.bits) x y k < 2 ^ sz.bits := mod_bits_lt sz _

theorem addCommon_toNat :
    (addCommon sz a b c).r.toNat = sumOf (2 ^ sz.bits) (a.toNat % 2 ^ sz.bits) (b.toNat % 2 ^ sz.bits) c.toNat :=
  toNat_ofNat_of_lt_bits sz (sumOf_lt sz _ _ _)

theorem addCommon_flags :
    (addCommon sz a b c).f = sumFlags (2 ^ sz.bits) (a.toNat % 2 ^ sz.bits) (b.toNat % 2 ^ sz.bits) c.toNat := by
  have htop := testBit_topOf sz (sumOf_lt sz (a.toNat % 2 ^ sz.bits) (b.toNat % 2 ^ sz.bits) c.toNat)
  rw [sumFlags, ← htop, ← outOfRange_eq, ← signedOf_eq, ← signedOf_eq]
  rfl

/-- The difference modulo the width does not depend on how it is kept from going below 0 (R176). -/
theorem diffOf_eq {x y : Nat} (hx : x < 2 ^ sz.bits) (hy : y < 2 ^ sz.bits) :
    (((x : Int) - y - c.toNat) % 2 ^ sz.bits).toNat = diffOf (2 ^ sz.bits) x y c.toNat := by
  have hc := c.toNat_le
  unfold diffOf
  cases sz <;> simp only [Size.bits] at * <;> omega

theorem subCommon_toNat :
    (subCommon sz a b c).r.toNat = diffOf (2 ^ sz.bits) (a.toNat % 2 ^ sz.bits) (b.toNat % 2 ^ sz.bits) c.toNat := by
  rw [← diffOf_eq sz c (mod_bits_lt sz _) (mod_bits_lt sz _)]
  refine toNat_ofNat_of_lt_bits sz ?_
  rw [diffOf_eq sz c (mod_bits_lt sz _) (mod_bits_lt sz _)]
  exact diffOf_lt sz _ _ _

theorem subCommon_flags :
    (subCommon sz a b c).f = diffFlags (2 ^ sz.bits) (a.toNat % 2 ^ sz.bits) (b.toNat % 2 ^ sz.bits) c.toNat := by
  have hborrow : ∀ x y : Nat, decide ((x : Int) - y - c.toNat < 0) = decide (x < y + c.toNat) :=
    fun x y => decide_eq_decide.2 (by omega)
  have htop := testBit_topOf sz (diffOf_lt sz (a.toNat % 2 ^ sz.bits) (b.toNat % 2 ^ sz.bits) c.toNat)
  rw [diffFlags, ← htop, ← outOfRange_eq, ← signedOf_eq, ← signedOf_eq, ← hborrow,
    ← diffOf_eq sz c (mod_bits_lt sz _) (mod_bits_lt sz _)]
  rfl

/-- A byte compared with an 8-bit immediate (R233, R235). -/
theorem subCommon_byte_flags (i : Byte) :
    (subCommon .byte a (i.setWidth 16) false).f = diffFlags 0x100 (a.toNat % 0x100) i.toNat 0 := by
  have himm : (i.setWidth 16).toNat % 0x100 = i.toNat := by
    rw [BitVec.toNat_setWidth_of_le (by decide)]
    exact Nat.mod_eq_of_lt i.isLt
  rw [← himm]
  exact subCommon_flags .byte a (i.setWidth 16) false

/-- Words have no bits to drop (R234, R236). -/
theorem subCommon_word_flags : (subCommon .word a b false).f = diffFlags 0x10000 a.toNat b.toNat 0 := by
  have hword : ∀ v : Word, v.toNat % 0x10000 = v.toNat := fun v => Nat.mod_eq_of_lt v.isLt
  rw [← hword a, ← hword b]
  exact subCommon_flags .word a b false

/-- Bit 7 of a byte set (R250). -/
theorem toNat_setTopBit {v : Word} (h : v.toNat < 256) : (v ||| 0x0080#16).toNat = v.toNat % 128 + 128 := by
  have hor : ∀ w < 128, 128 ||| w = 128 + w := fun w hw => (Nat.two_pow_add_eq_or_of_lt (i := 7) hw 1).symm
  rw [BitVec.toNat_or]
  change v.toNat ||| 128 = _
  rw [Nat.or_comm]
  by_cases hlow : v.toNat < 128
  · rw [hor _ hlow]
    omega
  · have hsplit : v.toNat = 128 ||| v.toNat % 128 := by
      rw [hor _ (Nat.mod_lt _ (by decide))]
      omega
    rw [hsplit, ← Nat.or_assoc, Nat.or_self, ← hsplit]
    omega

end Sys2Proof.Machine
end

section
/-! Proofs. Instructions of the general format that read their operand (R132, R165, R171). -/

namespace Sys2Proof.Machine

variable {s : State} {ea : EA} {i : Instr} {rd : Reg} {admitted : Bool}

/-! ## The shapes -/

/-- An admitted instruction goes on from the operand it read. -/
theorem reading_of_admitted (h : admitted = true) (k : Word → State → State) :
    reading admitted ea s k = .next (k (s.fetched ea).1 (s.fetched ea).2) := by
  subst h
  rfl

/-- A reserved one keeps the specifier's side effect and requests InvalidInstruction (R131, R132). -/
theorem turnedAway_of_exec {k : Word → State → State} (h : exec i s = reading admitted ea s k)
    (hreserved : admitted = false) : TurnedAway i ea s := by
  subst hreserved
  refine ⟨_, h, resolveEA_steppedRegs ea s, ?_⟩
  change requestException .invalidInstruction (resolveEA ea s).2 = _
  rw [resolveEA_sameButRegs]
  rfl

/-! ## The operand read -/

theorem fetched_nzvc : (s.fetched ea).2.nzvc = s.nzvc := by simp [State.fetched]

theorem fetched_params : (s.fetched ea).2.params = s.params := by simp [State.fetched]

/-- An operand has no bits above its width (R22, R74). -/
theorem fetched_lt (ea : EA) (s : State) : (s.fetched ea).1.toNat < 2 ^ ea.size.bits := by
  have hmem : ∀ sz pa u, (memRead sz pa u).1.toNat < 2 ^ sz.bits := by
    intro sz pa u
    cases sz with
    | byte => exact (BitVec.toNat_setWidth_of_le (by decide)).trans_lt (read8 pa u).1.isLt
    | word => exact (memRead16 pa u).1.isLt
  cases ea with
  | reg sz n =>
    refine (regW_toNat s sz n).trans_lt ?_
    exact mod_bits_lt sz _
  | imm8 v => exact (BitVec.toNat_setWidth_of_le (by decide)).trans_lt v.isLt
  | imm16 v => exact v.isLt
  | preDec | postInc | ind | disp8 | disp16 | abs8 | abs16 => exact hmem _ _ _

theorem fetched_mod (ea : EA) (s : State) : (s.fetched ea).1.toNat % 2 ^ ea.size.bits = (s.fetched ea).1.toNat :=
  Nat.mod_eq_of_lt (fetched_lt ea s)

/-- A register source is the register's low bits (R10, R22). -/
theorem regW_mod (u : State) (sz : Size) (n : Reg) :
    (u.regW sz n).toNat % 2 ^ sz.bits = (u.reg n).toNat % 2 ^ sz.bits := by
  rw [regW_toNat, Nat.mod_mod]

/-! ## What is written after it -/

/-- An instruction that reads its operand, then writes the flags alone. -/
theorem readsOperand_of_exec {f : Nzvc} (h : exec i s = .next ((s.fetched ea).2.setNzvc f)) : ReadsOperand i ea f s :=
  ⟨_, h, nzvc_setNzvc _ f, rfl,
    (fetched_registerFrame s ea).write rfl (fun _ _ => rfl) fun k hk => sr_setNzvc_high (s.fetched ea).2 f k hk⟩

/-- An instruction that reads its operand, then writes one register and no flag. -/
theorem loadsRegister_of_setReg {v : Word} (h : exec i s = .next ((s.fetched ea).2.setReg rd v)) :
    LoadsRegister i ea rd v.toNat s.nzvc s :=
  ⟨_, h, congrArg BitVec.toNat (reg_setReg_same _ rd v), fetched_nzvc, rfl,
    (fetched_registerFrame s ea).write rfl (fun m hm => reg_setReg_other _ rd m v (List.ne_of_not_mem_cons hm))
      fun _ _ => rfl⟩

/-- A two-operand instruction leaves its result in the low bits of Rd and keeps the bits above (R22, R171). -/
theorem loadsRegister_of_intoReg {f : Word → Word → Nzvc → Alu} {r : Nat} {flags : Nzvc}
    (h : exec i s = intoReg ea rd s f)
    (hr : (f ((s.fetched ea).2.regW ea.size rd) (s.fetched ea).1 s.nzvc).r.toNat = r)
    (hf : (f ((s.fetched ea).2.regW ea.size rd) (s.fetched ea).1 s.nzvc).f = flags) (hlt : r < 2 ^ ea.size.bits) :
    LoadsRegister i ea rd (((s.fetched ea).2.reg rd).toNat / 2 ^ ea.size.bits * 2 ^ ea.size.bits + r) flags s := by
  have hload := loadsRegister_of_exec (h.trans (reading_of_admitted rfl _))
  rwa [toNat_mergeReg, fetched_nzvc, hr, hf, Nat.mod_eq_of_lt hlt] at hload

/-- The two registers of a pair are two (R131). -/
theorem nextReg_ne (h : opensPair rd = true) : nextReg rd ≠ rd := by
  cases rd with
  | r0 | r2 | r4 | r6 => decide
  | r1 | r3 | r5 | r7 => nomatch h

theorem opensPair_eq (rd : Reg) : opensPair rd = decide (rd.toNat % 2 = 0) := by cases rd <;> rfl

/-- An instruction that reads its operand, then writes a register pair and the flags (R240, R242). -/
theorem exec_writesPair {hi lo : Word} {f : Nzvc} (hpair : opensPair rd = true)
    (h : exec i s = .next ((((s.fetched ea).2.setReg rd hi).setReg (nextReg rd) lo).setNzvc f)) :
    ∃ t, exec i s = .next t ∧ t.reg rd = hi ∧ t.reg (nextReg rd) = lo ∧ t.nzvc = f ∧ SameButRegsSr (s.fetched ea).2 t ∧
      RegisterFrame ea [rd, nextReg rd] s t := by
  refine ⟨_, h, ?_, reg_setReg_same _ _ lo, nzvc_setNzvc _ f, rfl,
    (fetched_registerFrame s ea).write rfl (fun m hm => ?_) fun k hk => sr_setNzvc_high (State.setReg _ _ _) f k hk⟩
  · exact (reg_setReg_other _ _ _ lo (nextReg_ne hpair).symm).trans (reg_setReg_same _ rd hi)
  · rw [List.mem_cons, List.mem_singleton, not_or] at hm
    exact (reg_setReg_other _ _ _ lo hm.2).trans (reg_setReg_other _ _ _ hi hm.1)

end Sys2Proof.Machine
end

section
/-! Proofs. Instructions that write their operand (R165): a register, or memory read once and written once. -/

namespace Sys2Proof.Machine

variable {s u : State} {ea : EA} {i : Instr} {sz : Size} {pa : BusAddr}

/-! ## A register operand -/

/-- A register operand is written at its width and nothing outside the CPU changes, whatever `u` is. -/
theorem writesOperand_of_register {n : Reg} {v : Word} {f : Nzvc}
    (h : exec i s = .next ((s.setRegW sz n v).setNzvc f)) (hv : v.toNat < 2 ^ sz.bits) :
    WritesOperand i (.reg sz n) v.toNat f u s := by
  obtain ⟨t, hexec, hsame, hother, hsr, hreg, hflags⟩ := exec_writesRegister h
  obtain ⟨hcontrol, hside, -, hslot, hout, hmem⟩ := hsame.kept
  refine ⟨t, hexec, hflags, ⟨hcontrol, hside, hsr, ⟨fun m hm _ => hother m (List.ne_of_not_mem_cons hm), ?_⟩, hslot,
    hmem, hout⟩, ?_⟩
  · exact fun _ _ hstepped => nomatch hstepped
  · change (t.reg n).toNat = _
    rw [hreg, toNat_mergeReg, Nat.mod_eq_of_lt hv]
    rfl

/-! ## A store after a read -/

theorem read8_ramcr (pa : BusAddr) (s : State) : (read8 pa s).2.dev.ramcr = s.dev.ramcr := by
  obtain ⟨_, _, _, _, _, h, hd, -⟩ := read8_shape s pa
  rw [h]
  exact hd

theorem memRead_ramcr (sz : Size) (pa : BusAddr) (s : State) : (memRead sz pa s).2.dev.ramcr = s.dev.ramcr := by
  cases sz with
  | byte => exact read8_ramcr pa s
  | word => rw [memRead, memRead16, read8_ramcr, read8_ramcr, checkAligned_eq]

theorem fetched_ramcr : (s.fetched ea).2.dev.ramcr = s.dev.ramcr := by
  unfold State.fetched
  cases (resolveEA ea s).1 with
  | reg n | imm v => simp [readOp]
  | mem pa => rw [readOp, memRead_ramcr, resolveEA_dev]

/-- The access that repeats an access requests nothing new (R505). -/
theorem slotAfterAccess_idem (sz : Size) (pa : Option BusAddr) (old : Option ExcKind) :
    slotAfterAccess sz pa (slotAfterAccess sz pa old) = slotAfterAccess sz pa old := by
  cases pa with
  | none => rfl
  | some a =>
    unfold slotAfterAccess
    dsimp only
    split_ifs
    · exact slotAfter_idem _ _
    · rfl

/-- A store reaches the same bytes from every state with this map and these arrays (R76, R77). -/
theorem memWrite_arraysKept_of_congr (hparams : u.params = s.params) (hramcr : u.dev.ramcr = s.dev.ramcr)
    (harrays : ArraysKept s u) (v : Word) : ArraysKeptButStored sz pa v s (memWrite sz pa v u) := by
  have htarget : ∀ pb, u.target pb = s.target pb := by
    intro pb
    rw [State.target, State.target, hparams, Dev.rame, hramcr]
    rfl
  have hstored := memWrite_arraysKeptButStored u sz pa v
  cases sz with
  | byte => exact fun g hg => (hstored g (htarget _ ▸ hg)).trans (harrays g)
  | word =>
    refine fun g hg hg' => (hstored g (htarget _ ▸ hg) ?_).trans (harrays g)
    rwa [write8_target_congr s u _ _ _ hparams hramcr]

/-- The canonical form of the arrays is a matter of memory, link, sub core and parameters (R37, R43, R83). -/
theorem arraysOk_congr (hparams : u.params = s.params) (hmem : u.mem = s.mem) (hsub : u.sub = s.sub)
    (hlink : u.link = s.link) : u.arraysOk = s.arraysOk := by
  rw [State.arraysOk, State.arraysOk, hparams, hmem, hsub, hlink]

/-- Memory read by the operand is written back at the same address. -/
theorem writesOperand_of_readWrite {v : Word} {f : Nzvc} (ho : (resolveEA ea s).1 = .mem pa)
    (h : exec i s = .next ((memWrite ea.size pa v (s.fetched ea).2).setNzvc f)) (hv : v.toNat < 2 ^ ea.size.bits) :
    WritesOperand i ea v.toNat f (s.fetched ea).2 s := by
  obtain ⟨hcontrol, hside, hsr, harrays, ⟨hother, hstepped⟩, hslot, hquiet⟩ := fetched_registerFrame s ea
  have haddr := operandAddr_of_mem ho
  have hregs : ∀ m, ((memWrite ea.size pa v (s.fetched ea).2).setNzvc f).reg m = (s.fetched ea).2.reg m :=
    fun m => memWrite_reg _ _ _ _ m
  have hofNat : BitVec.ofNat 16 v.toNat = v := (BitVec.ofNat_toNat 16 v).trans (BitVec.setWidth_eq v)
  -- From RAM the read has no side effect (R82), so the store begins in the memory of `s`.
  have hread : s.ramAt ea.size pa = true → SameOutside s (s.fetched ea).2 ∧ (s.fetched ea).2.mem = s.mem ∧
      (s.fetched ea).2.ramAt ea.size pa = true := by
    intro hram
    obtain ⟨hout, hmem⟩ := hquiet (by rw [State.quiet, haddr]; exact plainAt_of_ramAt hram)
    refine ⟨hout, hmem, ?_⟩
    rw [State.ramAt, distinctRam_congr (target_congr fetched_params hout.1)]
    exact hram
  refine ⟨_, h, nzvc_setNzvc _ f, ⟨hcontrol.trans (memWrite_sameControl _ _ _ v),
    hside.trans (memWrite_mainSide _ _ _ v), fun k hk => ?sr,
    ⟨fun m _ hm => (hregs m).trans (hother m List.not_mem_nil hm),
      fun m _ hm => (hregs m).trans (hstepped m List.not_mem_nil hm)⟩, ?slot, ?arrays⟩, ?value⟩
  case sr =>
    refine (sr_setNzvc_high _ f k hk).trans ?_
    rw [memWrite_sr]
    exact hsr k hk
  case slot =>
    refine (memWrite_excSlot _ _ _ v).trans ?_
    rw [hslot, haddr, slotAfterAccess_idem]
  case arrays =>
    simp only [haddr, hofNat]
    refine ⟨(memWrite_arraysKept_of_congr fetched_params fetched_ramcr harrays v).trans_kept (setNzvc_arrayByte _ f),
      fun hram => ?_⟩
    obtain ⟨hout, -, hramRead⟩ := hread hram
    exact hout.trans (memWrite_sameOutside v hramRead)
  case value =>
    simp only [ho, hofNat]
    refine ⟨rfl, fun ha hram => ?_⟩
    obtain ⟨hout, hmem, hramRead⟩ := hread hram
    have haRead := (arraysOk_congr fetched_params hmem hside.2.1 hout.2.1).trans ha
    exact Eq.trans (valueAt_of_stored ⟨rfl, rfl, rfl⟩ haRead hramRead) (Nat.mod_eq_of_lt hv)

/-! ## Either operand -/

/-- A read-modify-write instruction of a register or memory operand (R165). -/
theorem writesOperand_of_modifying {f : Word → State → Alu} {r : Nat} {flags : Nzvc} {admitted : Bool}
    (h : exec i s = modifying admitted ea s f) (hadmitted : admitted = true) (hea : ea.regOrMem = true)
    (hr : (f (s.fetched ea).1 (s.fetched ea).2).r.toNat = r) (hf : (f (s.fetched ea).1 (s.fetched ea).2).f = flags)
    (hlt : r < 2 ^ ea.size.bits) : WritesOperand i ea r flags (s.fetched ea).2 s := by
  subst hadmitted hr hf
  cases ea with
  | imm8 | imm16 => nomatch hea
  | reg sz n => exact writesOperand_of_register h hlt
  | preDec | postInc | ind | disp8 | disp16 | abs8 | abs16 => exact writesOperand_of_readWrite rfl h hlt

/-- An instruction that writes a register or memory operand without reading it (R246). -/
theorem writesOperand_of_general {v : Word} {f : Nzvc} {admitted : Bool}
    (h : exec i s = general admitted ea s fun o s1 => (writeOp ea.size o v s1).setNzvc f) (hadmitted : admitted = true)
    (hea : ea.regOrMem = true) (hlt : v.toNat < 2 ^ ea.size.bits) :
    WritesOperand i ea v.toNat f (resolveEA ea s).2 s := by
  subst hadmitted
  cases ea with
  | imm8 | imm16 => nomatch hea
  | reg sz n => exact writesOperand_of_register h hlt
  | preDec | postInc | ind | disp8 | disp16 | abs8 | abs16 => exact writesOperand_of_exec rfl h hlt

end Sys2Proof.Machine
end

section
/-! Proofs. Sums, differences and compares (R220 to R236, R247), and the instructions that clear or test (R246, R248,
R250). -/

namespace Sys2Proof.Machine

variable {s : State} {ea : EA}

/-! ## Into a register -/

section
variable {i : Instr} {rd : Reg} {f : Word → Word → Nzvc → Alu} {k : Bool}

/-- Rd's low bits plus the operand (R220, R224). -/
theorem loadsRegister_sum (h : exec i s = intoReg ea rd s f) (hf : ∀ d v, f d v s.nzvc = addCommon ea.size d v k) :
    let m := 2 ^ ea.size.bits
    let v := s.fetched ea
    let d := (v.2.reg rd).toNat
    LoadsRegister i ea rd (d / m * m + sumOf m (d % m) (v.1.toNat % m) k.toNat)
      (sumFlags m (d % m) (v.1.toNat % m) k.toNat) s := by
  intro m v d
  rw [← regW_mod]
  refine loadsRegister_of_intoReg h ?_ ?_ (sumOf_lt _ _ _ _)
  · rw [hf]
    exact addCommon_toNat _ _ _ k
  · rw [hf]
    exact addCommon_flags _ _ _ k

/-- Rd's low bits minus the operand (R228, R230). -/
theorem loadsRegister_difference (h : exec i s = intoReg ea rd s f)
    (hf : ∀ d v, f d v s.nzvc = subCommon ea.size d v k) :
    let m := 2 ^ ea.size.bits
    let v := s.fetched ea
    let d := (v.2.reg rd).toNat
    LoadsRegister i ea rd (d / m * m + diffOf m (d % m) (v.1.toNat % m) k.toNat)
      (diffFlags m (d % m) (v.1.toNat % m) k.toNat) s := by
  intro m v d
  rw [← regW_mod]
  refine loadsRegister_of_intoReg h ?_ ?_ (diffOf_lt _ _ _ _)
  · rw [hf]
    exact subCommon_toNat _ _ _ k
  · rw [hf]
    exact subCommon_flags _ _ _ k

/-- Settles O15: ADD:G and SUB with 0 carried in, ADDX and SUBX with C. -/
theorem addSubtractIntoRegister : Obligations.AddSubtractIntoRegister := fun ea _ s =>
  ⟨loadsRegister_sum (k := false) (f := fun d v _ => addCommon ea.size d v false) rfl fun _ _ => rfl,
    loadsRegister_sum (k := s.nzvc.c) (f := fun d v f => addCommon ea.size d v f.c) rfl fun _ _ => rfl,
    loadsRegister_difference (k := false) (f := fun d v _ => subCommon ea.size d v false) rfl fun _ _ => rfl,
    loadsRegister_difference (k := s.nzvc.c) (f := fun d v f => subCommon ea.size d v f.c) rfl fun _ _ => rfl⟩

end

/-! ## Into the operand -/

/-- ADD:Q adds its constant at the operand's width (R118, R222). -/
theorem writesOperand_addQ {q : Quick} {k : Nat} (hea : ea.regOrMem = true)
    (hk : (quickValue q).toNat % 2 ^ ea.size.bits = k) :
    let m := 2 ^ ea.size.bits
    let v := s.fetched ea
    WritesOperand (.addQ q ea) ea (sumOf m (v.1.toNat % m) k 0) (sumFlags m (v.1.toNat % m) k 0) v.2 s := by
  subst hk
  exact writesOperand_of_modifying (f := fun v _ => addCommon ea.size v (quickValue q) false) rfl hea hea
    (addCommon_toNat _ _ _ false) (addCommon_flags _ _ _ false) (sumOf_lt _ _ _ _)

/-- NEG subtracts the operand from 0 (R247). -/
theorem writesOperand_neg (hea : ea.regOrMem = true) :
    let m := 2 ^ ea.size.bits
    let v := s.fetched ea
    WritesOperand (.neg ea) ea (diffOf m 0 (v.1.toNat % m) 0) (diffFlags m 0 (v.1.toNat % m) 0) v.2 s := by
  intro m v
  have hzero : (0#16).toNat % m = 0 := Nat.zero_mod m
  rw [← hzero]
  exact writesOperand_of_modifying (f := fun v _ => subCommon ea.size 0#16 v false) rfl hea hea
    (subCommon_toNat _ _ _ false) (subCommon_flags _ _ _ false) (diffOf_lt _ _ _ _)

/-- The constants 1, 2, -1 and -2 at a width (R118). -/
theorem quickValue_mod (sz : Size) :
    (quickValue .plus1).toNat % 2 ^ sz.bits = 1 ∧ (quickValue .plus2).toNat % 2 ^ sz.bits = 2 ∧
      (quickValue .minus1).toNat % 2 ^ sz.bits = 2 ^ sz.bits - 1 ∧
      (quickValue .minus2).toNat % 2 ^ sz.bits = 2 ^ sz.bits - 2 := by
  cases sz <;> decide

/-- Settles O16: ADD:Q with each constant of `quickValue_mod`, and NEG. -/
theorem quickAddAndNegate : Obligations.QuickAddAndNegate := by
  intro ea s hea
  obtain ⟨hplus1, hplus2, hminus1, hminus2⟩ := quickValue_mod ea.size
  exact ⟨writesOperand_addQ hea hplus1, writesOperand_addQ hea hplus2, writesOperand_addQ hea hminus1,
    writesOperand_addQ hea hminus2, writesOperand_neg hea⟩

/-! ## Whole registers -/

/-- A byte source is signed, a word source is used as it is (R226, R229). -/
theorem toNat_extendSource_byte (v : Word) : ((extendSource .byte v).toNat : Int) = Int.bmod v.toNat 256 % 0x10000 := by
  rw [extendSource, toNat_sext16, ← toInt_sext16, toInt_sext16_lo]
  exact Int.toNat_of_nonneg (Int.emod_nonneg _ (by decide))

theorem toNat_extendSource_word (v : Word) : ((extendSource .word v).toNat : Int) = (v.toNat : Int) % 0x10000 := by
  have hlt := v.isLt
  rw [extendSource]
  omega

/-- Settles O17: addition and subtraction of the extended source modulo 2^16. -/
theorem addressArithmetic : Obligations.AddressArithmetic := by
  intro ea rd s v e d
  have hsource : ((extendSource ea.size v.1).toNat : Int) = e % 0x10000 := by
    simp only [e]
    cases ea.size with
    | byte => exact toNat_extendSource_byte v.1
    | word => exact toNat_extendSource_word v.1
  have hadd : (v.2.reg rd + extendSource ea.size v.1).toNat = ((d + e) % 0x10000).toNat := by
    rw [BitVec.toNat_add]
    omega
  have hsub : (v.2.reg rd - extendSource ea.size v.1).toNat = ((d - e) % 0x10000).toNat := by
    rw [BitVec.toNat_sub]
    omega
  exact ⟨hadd ▸ loadsRegister_of_setReg rfl, hsub ▸ loadsRegister_of_setReg rfl⟩

/-! ## The flags alone -/

/-- CMP:G of a memory operand with an immediate takes memory operands of its width alone (R233, R234). -/
theorem compareImmediate_admitted {sz : Size} (hmem : ea.cls = .mem) (hsize : ea.size = sz) :
    (ea.cls == .mem && ea.size == sz) = true := by
  rw [hmem, hsize, beq_self_eq_true, beq_self_eq_true, Bool.and_self]

/-- Settles O18: every compare leaves the flags of `subCommon` and writes nothing else. -/
theorem compares : Obligations.Compares := by
  refine fun ea s => ⟨fun rd => ?general, fun hmem hbyte i => ?imm8, fun hmem hword i => ?imm16, fun i rd => ?short,
    fun i rd => ?short16⟩
  case general =>
    rw [← regW_mod]
    exact (subCommon_flags _ _ _ false) ▸ readsOperand_of_exec rfl
  case imm8 =>
    rw [← subCommon_byte_flags]
    exact readsOperand_of_exec (reading_of_admitted (compareImmediate_admitted hmem hbyte) fun v s1 =>
      s1.setNzvc (subCommon .byte v (i.setWidth 16) false).f)
  case imm16 =>
    rw [← subCommon_word_flags]
    exact readsOperand_of_exec (reading_of_admitted (compareImmediate_admitted hmem hword) fun v s1 =>
      s1.setNzvc (subCommon .word v i false).f)
  case short =>
    have hreg : (s.reg rd).toNat % 0x100 = (s.regW .byte rd).toNat % 0x100 := (regW_mod s .byte rd).symm
    rw [hreg, ← subCommon_byte_flags]
    exact readsOperand_of_exec rfl
  case short16 =>
    rw [← subCommon_word_flags]
    exact readsOperand_of_exec rfl

/-! ## Cleared and tested -/

/-- Settles O21: CLR writes without reading, TST reads without writing, TAS does both. -/
theorem clearTestSet : Obligations.ClearTestSet := by
  intro ea s hea m v a
  refine ⟨writesOperand_of_general (v := 0#16) rfl hea hea (Nat.two_pow_pos _), ?tst, fun hbyte => ?tas⟩
  case tst =>
    have h := readsOperand_of_exec (i := .tst ea)
      (reading_of_admitted hea (s := s) fun v s1 => s1.setNzvc (testFlags ea.size v))
    rwa [testFlags_eq] at h
  case tas =>
    have hm : m = 256 := congrArg (2 ^ Size.bits ·) hbyte
    have hlt : v.1.toNat < 256 := hm ▸ fetched_lt ea s
    have ha : a = v.1.toNat := fetched_mod ea s
    refine writesOperand_of_modifying (f := fun v _ => { r := v ||| 0x0080#16, f := testFlags .byte v }) rfl ?_ hea ?_
      ?_ ?_
    · rw [show alterable ea = true from hea, hbyte]
      rfl
    · rw [ha]
      exact toNat_setTopBit hlt
    · rw [ha, ← Nat.mod_eq_of_lt hlt]
      exact testFlags_eq .byte v.1
    · change _ < m
      omega

end Sys2Proof.Machine
end

section
/-! Proofs. MULXU and DIVXU (R240, R242, U2, U3), and the odd register of a word pair (R131, R132). -/

namespace Sys2Proof.Machine

variable {s : State} {ea : EA} {rd : Reg}

/-! ## Which registers are admitted -/

theorem pairOk_byte (hbyte : ea.size = .byte) : pairOk ea rd = true := by
  rw [pairOk, hbyte]
  rfl

theorem pairOk_word (hword : ea.size = .word) : pairOk ea rd = opensPair rd := by
  rw [pairOk, hword]
  rfl

/-- A word pair begins at an even register (R131). -/
theorem opensPair_even (h : rd.toNat % 2 = 0) : opensPair rd = true := (opensPair_eq rd).trans (decide_eq_true h)

theorem pairOk_odd (hword : ea.size = .word) (hodd : rd.toNat % 2 = 1) : pairOk ea rd = false := by
  rw [pairOk_word hword, opensPair_eq]
  exact decide_eq_false (by omega)

/-! ## The product -/

theorem mulByte_eq (x y : Word) : (mulByte x y).r.toNat = x.toNat % 256 * (y.toNat % 256) ∧
    (mulByte x y).f = valueFlags 0x10000 (x.toNat % 256 * (y.toNat % 256)) false false := by
  have hnarrow : ∀ v : Word, (narrow .byte v).toNat = v.toNat % 256 := toNat_narrow .byte
  have hlt : x.toNat % 256 * (y.toNat % 256) < 0x10000 :=
    Nat.mul_lt_mul'' (Nat.mod_lt _ (by decide)) (Nat.mod_lt _ (by decide))
  simp only [mulByte, hnarrow, valueFlags, BitVec.toNat_ofNat, testBit_top (w := 15) hlt]
  exact ⟨Nat.mod_eq_of_lt hlt, rfl⟩

theorem mulWord_eq (x y : Word) :
    (mulWord x y).hi.toNat * 0x10000 + (mulWord x y).lo.toNat = x.toNat * y.toNat ∧
      (mulWord x y).f = valueFlags 0x100000000 (x.toNat * y.toNat) false false := by
  have hlt : x.toNat * y.toNat < 0x100000000 := Nat.mul_lt_mul'' x.isLt y.isLt
  simp only [mulWord, valueFlags, BitVec.toNat_ofNat, testBit_top (w := 31) hlt]
  exact ⟨by omega, rfl⟩

/-- A byte product fills Rd (R240). -/
theorem exec_mulxu_byte (hbyte : ea.size = .byte) :
    let p := mulByte ((s.fetched ea).2.reg rd) (s.fetched ea).1
    exec (.mulxu ea rd) s = .next (((s.fetched ea).2.setReg rd p.r).setNzvc p.f) := by
  change execMulxu ea rd s = _
  rw [execMulxu, reading_of_admitted (pairOk_byte hbyte), hbyte]

/-- The multiplicand of a word product, as the parameter names it (R8, R240). -/
def multiplicandOf (x : Multiplicand) (rd : Reg) (u : State) : Word :=
  match x with
  | .rdNext => u.reg (nextReg rd)
  | .rd => u.reg rd

/-- A word product fills the pair (R240). -/
theorem exec_mulxu_word (hword : ea.size = .word) (heven : rd.toNat % 2 = 0) :
    let u := (s.fetched ea).2
    let p := mulWord (multiplicandOf s.params.multiplicand rd u) (s.fetched ea).1
    exec (.mulxu ea rd) s = .next (((u.setReg rd p.hi).setReg (nextReg rd) p.lo).setNzvc p.f) := by
  intro u p
  change execMulxu ea rd s = _
  rw [execMulxu, reading_of_admitted ((pairOk_word hword).trans (opensPair_even heven)), hword, fetched_params]
  rfl

/-- Settles O19: the product by `mulByte_eq` and `mulWord_eq`, the odd pair by `turnedAway_of_exec`. -/
theorem multiply : Obligations.Multiply := by
  refine fun ea rd s => ⟨fun hbyte => ?byte, fun hword heven => ?word, fun hword hodd => ?odd⟩
  case byte =>
    intro p
    obtain ⟨hproduct, hflags⟩ := mulByte_eq ((s.fetched ea).2.reg rd) (s.fetched ea).1
    have hload := loadsRegister_of_exec (exec_mulxu_byte (rd := rd) (s := s) hbyte)
    rwa [hflags, hproduct] at hload
  case word =>
    intro k p
    obtain ⟨hproduct, hflags⟩ := mulWord_eq (multiplicandOf s.params.multiplicand rd (s.fetched ea).2) (s.fetched ea).1
    obtain ⟨t, hexec, hhi, hlo, hnzvc, hsame, hframe⟩ :=
      exec_writesPair (opensPair_even heven) (exec_mulxu_word hword heven)
    refine ⟨t, hexec, ?_, hnzvc.trans hflags, hsame, hframe⟩
    rw [hhi, hlo]
    exact hproduct
  case odd =>
    have hexec : exec (.mulxu ea rd) s = execMulxu ea rd s := rfl
    rw [execMulxu] at hexec
    exact turnedAway_of_exec hexec (pairOk_odd hword hodd)

/-! ## The quotient -/

theorem dividend_eq (sz : Size) (rd : Reg) (u : State) : u.dividend sz rd = dividendOf sz rd u := by
  cases sz <;> rfl

/-- A divisor that is not zero and a quotient that fits (R242). -/
theorem divide_done {n d m : Nat} (hd : d ≠ 0) (hfits : n < d * m) : divide n d (m - 1) = .done (n / d) (n % d) := by
  have hq : n / d < m := Nat.div_lt_of_lt_mul hfits
  rw [divide, if_neg hd, if_neg (by omega)]

/-- A quotient that does not fit (R242). -/
theorem divide_overflow {n d m : Nat} (hd : d ≠ 0) (hm : 0 < m) (hover : d * m ≤ n) :
    divide n d (m - 1) = .overflow := by
  have hq : m ≤ n / d := (Nat.le_div_iff_mul_le (Nat.pos_of_ne_zero hd)).2 (Nat.mul_comm d m ▸ hover)
  rw [divide, if_neg hd, if_pos (by omega)]

theorem quotientFlags_eq {sz : Size} {q : Nat} (h : q < 2 ^ sz.bits) :
    quotientFlags sz q = valueFlags (2 ^ sz.bits) q false false := by
  rw [quotientFlags, valueFlags, testBit_topOf sz h]
  rfl

/-- What DIVXU does to the state the operand was read in (R242). -/
def afterDivision (sz : Size) (rd : Reg) (u : State) : Division → State
  | .byZero => divideByZero sz rd u
  | .overflow => divideOverflow u
  | .done q r => (storeQuotient sz rd q r u).setNzvc (quotientFlags sz q)

/-- DIVXU goes on from the operand with one of three outcomes (R242). -/
theorem exec_divxu {x : Division} (hpair : ea.size = .word → rd.toNat % 2 = 0)
    (hx : divide (dividendOf ea.size rd (s.fetched ea).2) (s.fetched ea).1.toNat (2 ^ ea.size.bits - 1) = x) :
    exec (.divxu ea rd) s = .next (afterDivision ea.size rd (s.fetched ea).2 x) := by
  have hadmitted : pairOk ea rd = true := by
    cases hsize : ea.size with
    | byte => exact pairOk_byte hsize
    | word => exact (pairOk_word hsize).trans (opensPair_even (hpair hsize))
  change execDivxu ea rd s = _
  rw [execDivxu, reading_of_admitted hadmitted, dividend_eq, hx]
  cases x <;> rfl

/-- The quotient and the remainder in the destination (R242). -/
theorem exec_storesQuotient {i : Instr} {q r : Nat} {f : Nzvc} (hpair : ea.size = .word → rd.toNat % 2 = 0)
    (hq : q < 2 ^ ea.size.bits) (hr : r < 2 ^ ea.size.bits)
    (h : exec i s = .next ((storeQuotient ea.size rd q r (s.fetched ea).2).setNzvc f)) :
    ∃ t, exec i s = .next t ∧
      (match ea.size with
        | .byte => (t.reg rd).toNat = r * 256 + q
        | .word => (t.reg rd).toNat = r ∧ (t.reg (nextReg rd)).toNat = q) ∧
      t.nzvc = f ∧ SameButRegsSr (s.fetched ea).2 t ∧ RegisterFrame ea (pairOf ea.size rd) s t := by
  cases hsize : ea.size with
  | byte =>
    rw [hsize] at h hq hr
    obtain ⟨t, hexec, hreg, hnzvc, hsame, hframe⟩ := loadsRegister_of_exec h
    refine ⟨t, hexec, hreg.trans (Nat.mod_eq_of_lt ?_), hnzvc, hsame, hframe⟩
    simp only [Size.bits] at hq hr
    omega
  | word =>
    rw [hsize] at h hq hr
    obtain ⟨t, hexec, hhi, hlo, hnzvc, hsame, hframe⟩ := exec_writesPair (opensPair_even (hpair hsize)) h
    exact ⟨t, hexec, ⟨hhi ▸ Nat.mod_eq_of_lt hr, hlo ▸ Nat.mod_eq_of_lt hq⟩, hnzvc, hsame, hframe⟩

/-! ## Free results -/

/-- `t` is `u` but for the general registers, SR and the count of free values. -/
def SameButRegsSrDraws (u t : State) : Prop :=
  t = { u with cpu.regs := t.cpu.regs, cpu.sr := t.cpu.sr, model.draws := t.model.draws }

/-- Drawing free values reaches no more of the state than writing registers and SR. -/
theorem SameButRegsSrDraws.kept {u t : State} (h : SameButRegsSrDraws u t) :
    SameControl u t ∧ MainSide u t ∧ ArraysKept u t ∧ t.dev = u.dev ∧ t.link = u.link ∧ t.pcm = u.pcm ∧
      t.cpu.intPending = u.cpu.intPending ∧ t.cpu.excSlot = u.cpu.excSlot := by
  obtain ⟨r, q, n, rfl⟩ : ∃ r q n, t = { u with cpu.regs := r, cpu.sr := q, model.draws := n } := ⟨_, _, _, h⟩
  simp only [SameControl, MainSide, and_self, true_and, and_true]
  exact fun g => by cases g <;> rfl

theorem storeFree_reg_other {m : Reg} (sz : Size) (u : State) (h : m ∉ pairOf sz rd) :
    (storeFree sz rd u).reg m = u.reg m := by
  cases sz with
  | byte => exact reg_setReg_other _ _ m _ (List.ne_of_not_mem_cons h)
  | word =>
    rw [pairOf, List.mem_cons, List.mem_singleton, not_or] at h
    exact (reg_setReg_other _ _ m _ h.2).trans (reg_setReg_other _ _ m _ h.1)

/-- Free words in the destination and free flags stay in the frame of a register write. -/
theorem storeFree_frame (f : Nzvc) :
    RegisterFrame ea (pairOf ea.size rd) s ((storeFree ea.size rd (s.fetched ea).2).setNzvc f) := by
  have hsame : ∀ sz u, SameButRegsSr u ((storeFree sz rd u).setNzvc f) := fun sz u => by cases sz <;> rfl
  have hsr : ∀ sz u, (storeFree sz rd u).cpu.sr = u.cpu.sr := fun sz u => by cases sz <;> rfl
  refine (fetched_registerFrame s ea).write (hsame _ _) (fun m hm => storeFree_reg_other _ _ hm) fun k hk => ?_
  rw [← hsr ea.size (s.fetched ea).2]
  exact sr_setNzvc_high _ f k hk

/-- DIVXU by zero goes on; its destination and the four flags are free (R242, U2). -/
theorem exec_divxu_byZero (hpair : ea.size = .word → rd.toNat % 2 = 0) (hzero : (s.fetched ea).1.toNat = 0) :
    ∃ t, exec (.divxu ea rd) s = .next t ∧ SameControl s t ∧ MainSide s t ∧ SameSrSystem s t ∧ ArraysKept s t ∧
      SteppedRegs ea (pairOf ea.size rd) s t ∧ SameButRegsSrDraws (s.fetched ea).2 t := by
  have hexec := exec_divxu hpair (if_pos hzero)
  obtain ⟨hcontrol, hside, hsr, -, hregs, -⟩ := storeFree_frame (rd := rd) (s := s) (ea := ea) ⟨_, _, _, _⟩
  have hsame : ∀ sz u, SameButRegsSrDraws u (divideByZero sz rd u) := fun sz u => by cases sz <;> rfl
  obtain ⟨-, -, harrays, -⟩ := (hsame ea.size (s.fetched ea).2).kept
  exact ⟨_, hexec, hcontrol, hside, hsr, (fetched_arraysKept s ea).trans harrays, hregs, hsame _ _⟩

/-! ## The three outcomes -/

/-- A quotient that fits is stored with the remainder (R242). -/
theorem exec_divxu_done (hpair : ea.size = .word → rd.toNat % 2 = 0) :
    let m := 2 ^ ea.size.bits
    let v := s.fetched ea
    let n := dividendOf ea.size rd v.2
    let d := v.1.toNat
    d ≠ 0 → n < d * m →
      ∃ t q r, exec (.divxu ea rd) s = .next t ∧ n = d * q + r ∧ r < d ∧ q < m ∧
        (match ea.size with
          | .byte => (t.reg rd).toNat = r * 256 + q
          | .word => (t.reg rd).toNat = r ∧ (t.reg (nextReg rd)).toNat = q) ∧
        t.nzvc = valueFlags m q false false ∧ SameButRegsSr v.2 t ∧ RegisterFrame ea (pairOf ea.size rd) s t := by
  intro m v n d hd hfits
  have hexec := exec_divxu hpair (divide_done hd hfits)
  have hr : n % d < d := Nat.mod_lt _ (Nat.pos_of_ne_zero hd)
  have hq : n / d < m := Nat.div_lt_of_lt_mul hfits
  obtain ⟨t, hnext, hregs, hnzvc, hsame, hframe⟩ := exec_storesQuotient hpair hq (hr.trans (fetched_lt ea s)) hexec
  exact ⟨t, n / d, n % d, hnext, (Nat.div_add_mod n d).symm, hr, hq, hregs, hnzvc.trans (quotientFlags_eq hq), hsame,
    hframe⟩

/-- A quotient that does not fit leaves the registers, N and Z are free (R242, U3). -/
theorem exec_divxu_overflow (hpair : ea.size = .word → rd.toNat % 2 = 0) :
    let m := 2 ^ ea.size.bits
    let v := s.fetched ea
    let n := dividendOf ea.size rd v.2
    let d := v.1.toNat
    d ≠ 0 → d * m ≤ n →
      ∃ t, exec (.divxu ea rd) s = .next t ∧ t.nzvc.v = true ∧ t.nzvc.c = false ∧ t.cpu.regs = v.2.cpu.regs ∧
        SameControl s t ∧ MainSide s t ∧ SameSrSystem s t ∧ ArraysKept s t ∧ t.dev = v.2.dev ∧ t.link = v.2.link ∧
        t.pcm = v.2.pcm ∧ t.cpu.intPending = v.2.cpu.intPending ∧ t.cpu.excSlot = v.2.cpu.excSlot := by
  intro m v n d hd hover
  have hexec := exec_divxu hpair (divide_overflow hd (Nat.two_pow_pos _) hover)
  obtain ⟨hcontrol, hside, hsr, harrays, -⟩ := fetched_registerFrame s ea
  have hsame : SameButRegsSrDraws v.2 (divideOverflow v.2) := rfl
  obtain ⟨hcontrol', hside', harrays', hrest⟩ := hsame.kept
  have hnzvc := nzvc_setNzvc v.2
    { n := Config.freeBit v.2.model.draws, z := Config.freeBit (v.2.model.draws + 1), v := true, c := false }
  exact ⟨_, hexec, congrArg Nzvc.v hnzvc, congrArg Nzvc.c hnzvc, rfl, hcontrol.trans hcontrol', hside.trans hside',
    hsr.trans fun k hk => sr_setNzvc_high v.2 _ k hk, harrays.trans harrays', hrest⟩

end Sys2Proof.Machine

/-! The model's own `divide` is the name in `Sys2Proof.Machine`. -/

namespace Sys2Proof

open Machine

/-- Settles O20: the outcomes of `exec_divxu_done` and `exec_divxu_overflow`, the odd pair by `turnedAway_of_exec`. -/
theorem divide : Obligations.Divide := by
  refine fun ea rd s => ⟨fun hword hodd => ?_, fun hpair => ⟨exec_divxu_done hpair, exec_divxu_overflow hpair⟩⟩
  have hexec : exec (.divxu ea rd) s = execDivxu ea rd s := rfl
  rw [execDivxu] at hexec
  exact turnedAway_of_exec hexec (pairOk_odd hword hodd)

end Sys2Proof
end

section
/-! Proofs. The sub core with D or T set, and DIVXU by zero: what is open and what is not (R242, R407, U2, U6). -/

namespace Sys2Proof.Machine

variable {s : State} {m : SubMode}

/-! ## P bit by bit -/

theorem getLsbD_withBit {i k : Nat} (b : Bool) (v : Byte) (hk : k < 8) :
    (withBit i b v).getLsbD k = if k = i then b else v.getLsbD k := by
  have hone : (1#8 <<< i).getLsbD k = decide (k = i) := by
    rw [BitVec.getLsbD_shiftLeft, BitVec.getLsbD_one, Bool.eq_iff_iff]
    simp only [hk, decide_true, Bool.true_and, Nat.ofNat_pos, Bool.and_eq_true, Bool.not_eq_true',
      decide_eq_false_iff_not, decide_eq_true_eq]
    omega
  unfold withBit
  cases b with
  | false =>
    rw [if_neg Bool.false_ne_true, BitVec.getLsbD_and, BitVec.getLsbD_not, hone, decide_eq_true hk]
    by_cases hi : k = i <;> simp [hi]
  | true =>
    rw [if_pos rfl, BitVec.getLsbD_or, hone]
    by_cases hi : k = i <;> simp [hi]

/-- `NZ8(r)` writes N and Z alone (R406). -/
theorem getLsbD_nz8 {k : Nat} (r p : Byte) (hk : k < 8) :
    (nz8 r p).getLsbD k = if k = 7 then r.getLsbD 7 else if k = 1 then r == 0#8 else p.getLsbD k := by
  rw [nz8, getLsbD_withBit _ _ hk, getLsbD_withBit _ _ hk]

/-- N and Z are those of the byte (R406). -/
theorem nzOf_of_p {r p : Byte} {t : State} (h : t.sub.p = nz8 r p) : nzOf r t := by
  have htop : r.getLsbD 7 = decide (128 ≤ r.toNat) := by
    rw [BitVec.getLsbD, testBit_top (w := 7) r.isLt, decide_eq_decide]
    omega
  have hzero : (r == 0#8) = decide (r.toNat = 0) := by
    rw [beq_eq_decide, decide_eq_decide]
    exact BitVec.toNat_inj.symm
  rw [nzOf, State.pN, State.pZ, h, getLsbD_nz8 _ _ (by decide), getLsbD_nz8 _ _ (by decide), ← htop, ← hzero]
  exact ⟨rfl, rfl⟩

/-! ## The operand -/

theorem subLoad_sub (o : SubPlace) (u : State) : (subLoad o u).2.sub = u.sub := by
  cases o with
  | acc | imm v => rfl
  | mem a => exact subRead_sub u a

/-- Finding and reading an operand leaves the sub core's registers (R405). -/
theorem subOperand_sub (m : SubMode) (s : State) : (subOperand m s).2.sub = s.sub := by
  refine (subLoad_sub _ _).trans ?_
  cases m with
  | indy z => exact (subRead_sub _ _).trans (subRead_sub _ _)
  | acc | imm | zp | zpx | zpy | abs | absx | absy => rfl

theorem subOperand_p (m : SubMode) (s : State) : (subOperand m s).2.sub.p = s.sub.p :=
  congrArg SubCore.p (subOperand_sub m s)

theorem subOperand_pT_pD (m : SubMode) (s : State) : (subOperand m s).2.pT = s.pT ∧ (subOperand m s).2.pD = s.pD := by
  rw [State.pT, State.pD, subOperand_p]
  exact ⟨rfl, rfl⟩

/-! ## Free results -/

/-- `NZ8` over a P that changed in the bits of `written`, N and Z among them. -/
theorem keepsP_nz8 {t : State} {r q : Byte} {written : List Nat} (h : t.sub.p = nz8 r q)
    (hq : ∀ k, k < 8 → k ∉ written → q.getLsbD k = s.sub.p.getLsbD k) (hz : 1 ∈ written) (hn : 7 ∈ written) :
    keepsP written s t := by
  intro k hk hkeep
  rw [h, getLsbD_nz8 _ _ hk, if_neg (ne_of_mem_of_not_mem hn hkeep).symm,
    if_neg (ne_of_mem_of_not_mem hz hkeep).symm, hq k hk hkeep]

/-- An instruction that writes A with open results: A, the flags of `written` and the count of free values change, N
and Z are those of A. -/
def OpenResult (m : SubMode) (written : List Nat) (s t : State) : Prop :=
  keepsP written s t ∧ nzOf t.sub.a t ∧
    t = { (subOperand m s).2 with sub.a := t.sub.a, sub.p := t.sub.p, model.draws := t.model.draws }

/-- A free byte in A with its N and Z, over a P that changed in the bits of `written` (R407). -/
theorem openResult_of_free {t : State} {r q : Byte} {n : Nat} {written : List Nat}
    (ht : t = (((subOperand m s).2.setA r).setP (nz8 r q)).drawn n)
    (hq : ∀ k, k < 8 → k ∉ written → q.getLsbD k = s.sub.p.getLsbD k) (hz : 1 ∈ written) (hn : 7 ∈ written) :
    OpenResult m written s t := by
  subst ht
  exact ⟨keepsP_nz8 rfl hq hz hn, nzOf_of_p rfl, rfl⟩

/-- With T set an accumulator operation's A is free (R407, U6). -/
theorem subAccOp_open (hT : s.pT = true) (f : Byte → Byte → Byte) : OpenResult m [1, 7] s (subAccOp m s f) := by
  refine openResult_of_free (if_pos ((subOperand_pT_pD m s).1.trans hT)) (fun k _ _ => ?_) (by decide) (by decide)
  exact congrArg (·.getLsbD k) (subOperand_p m s)

/-- With D or T set A, C and V of ADC and SBC are free (R407, U6). -/
theorem subArithOp_open (hDT : s.pT = true ∨ s.pD = true) (f : Byte → Byte → Byte → Byte × Byte) :
    OpenResult m [0, 1, 6, 7] s (subArithOp m s f) := by
  have hfree : ((subOperand m s).2.pT || (subOperand m s).2.pD) = true := by
    obtain ⟨hT, hD⟩ := subOperand_pT_pD m s
    rw [hT, hD]
    rwa [Bool.or_eq_true]
  refine openResult_of_free (if_pos hfree) (fun k hk hkeep => ?_) (by decide) (by decide)
  have h6 : k ≠ 6 := (ne_of_mem_of_not_mem (by decide) hkeep).symm
  have h0 : k ≠ 0 := (ne_of_mem_of_not_mem (by decide) hkeep).symm
  rw [getLsbD_withBit _ _ hk, getLsbD_withBit _ _ hk, if_neg h6, if_neg h0]
  exact congrArg (·.getLsbD k) (subOperand_p m s)

/-- With T set the flags of CMP are free (R407, U6). -/
theorem exec_s8Cmp_open (hT : s.pT = true) :
    ∃ t, exec (.s8Cmp m) s = .next t ∧ keepsP [0, 1, 7] s t ∧
      t = { (subOperand m s).2 with sub.p := t.sub.p, model.draws := t.model.draws } := by
  have hexec : exec (.s8Cmp m) s = execS8Cmp m s := rfl
  rw [execS8Cmp, if_pos ((subOperand_pT_pD m s).1.trans hT)] at hexec
  refine ⟨_, hexec, keepsP_nz8 rfl (fun k hk hkeep => ?_) (by decide) (by decide), rfl⟩
  have h0 : k ≠ 0 := (ne_of_mem_of_not_mem (by decide) hkeep).symm
  rw [getLsbD_withBit _ _ hk, if_neg h0]
  exact congrArg (·.getLsbD k) (subOperand_p m s)

/-- Settles O55: the main core by `exec_divxu_byZero`, the sub core by `subAccOp_open`, `subArithOp_open` and
`exec_s8Cmp_open`. -/
theorem openResults : Obligations.OpenResults := fun _ _ =>
  ⟨fun _ _ hpair hzero => exec_divxu_byZero hpair hzero,
    fun hT => ⟨⟨_, rfl, subAccOp_open hT _⟩, ⟨_, rfl, subAccOp_open hT _⟩, ⟨_, rfl, subAccOp_open hT _⟩,
      ⟨_, rfl, subAccOp_open hT _⟩, exec_s8Cmp_open hT⟩,
    fun hDT => ⟨⟨_, rfl, subArithOp_open hDT _⟩, ⟨_, rfl, subArithOp_open hDT _⟩⟩⟩

end Sys2Proof.Machine
end

section
/-! Proofs. AND, OR, XOR, NOT: results bit by bit (R260 to R263). -/

namespace Sys2Proof.Machine

variable {s : State} {ea : EA} {i : Instr} {rd : Reg}

/-! ## Bits at a width -/

theorem bits_le (sz : Size) : sz.bits ≤ 16 := by cases sz <;> decide

/-- A W-bit value has no bit above its width (R22). -/
theorem testBit_of_bits_le {sz : Size} {x k : Nat} (hx : x < 2 ^ sz.bits) (hk : sz.bits ≤ k) : x.testBit k = false :=
  Nat.testBit_lt_two_pow (hx.trans_le (Nat.pow_le_pow_right Nat.two_pos hk))

/-- A register source shows the register's bits at the width (R10, R22). -/
theorem regW_testBit (u : State) {sz : Size} (n : Reg) {k : Nat} (hk : k < sz.bits) :
    (u.regW sz n).toNat.testBit k = (u.reg n).toNat.testBit k := by
  rw [regW_toNat, Nat.testBit_mod_two_pow, decide_eq_true hk, Bool.true_and]

theorem regW_lt (u : State) (sz : Size) (n : Reg) : (u.regW sz n).toNat < 2 ^ sz.bits :=
  (regW_toNat u sz n).trans_lt (mod_bits_lt sz _)

/-- The flags of a value that has no bit above the width (R179). -/
theorem logicFlags_of_lt {sz : Size} {v : Word} (hv : v.toNat < 2 ^ sz.bits) (old : Nzvc) :
    logicFlags sz v old = valueFlags (2 ^ sz.bits) v.toNat false old.c := by
  rw [logicFlags_eq, Nat.mod_eq_of_lt hv]

/-! ## Into a register -/

/-- An operation on Rd and the operand that acts on each pair of bits by `g` (R260, R261, R262). -/
theorem loadsRegister_bitwise {op : Word → Word → Word} {g : Bool → Bool → Bool}
    (h : exec i s = intoReg ea rd s fun d v f => logicAlu ea.size (op d v) f) (hg : g false false = false)
    (hop : ∀ d v k, (op d v).getLsbD k = g (d.getLsbD k) (v.getLsbD k)) :
    let m := 2 ^ ea.size.bits
    let v := s.fetched ea
    let d := (v.2.reg rd).toNat
    ∃ r, r < m ∧ (∀ k, k < ea.size.bits → r.testBit k = g (d.testBit k) (v.1.toNat.testBit k)) ∧
      LoadsRegister i ea rd (d / m * m + r) (valueFlags m r false s.nzvc.c) s := by
  intro m v d
  have hbit : ∀ k, (op (v.2.regW ea.size rd) v.1).toNat.testBit k =
      g ((v.2.regW ea.size rd).toNat.testBit k) (v.1.toNat.testBit k) := hop _ _
  have hlt : (op (v.2.regW ea.size rd) v.1).toNat < m := by
    refine Nat.lt_pow_two_of_testBit _ fun k hk => ?_
    rw [hbit, testBit_of_bits_le (regW_lt _ _ _) hk, testBit_of_bits_le (fetched_lt ea s) hk, hg]
  refine ⟨_, hlt, fun k hk => ?_, loadsRegister_of_intoReg h rfl (logicFlags_of_lt hlt _) hlt⟩
  rw [hbit, regW_testBit _ _ hk]

/-! ## Into the operand -/

/-- The complement at a width (R263). -/
theorem toNat_narrow_not {sz : Size} {v : Word} (hv : v.toNat < 2 ^ sz.bits) :
    (narrow sz (~~~v)).toNat = 2 ^ sz.bits - 1 - v.toNat := by
  rw [toNat_narrow, BitVec.toNat_not]
  cases sz <;> simp only [Size.bits] at * <;> omega

/-- NOT complements the operand and leaves the flags of the complement (R263). -/
theorem writesOperand_not (hea : ea.regOrMem = true) :
    let m := 2 ^ ea.size.bits
    let v := s.fetched ea
    WritesOperand (.not ea) ea (m - 1 - v.1.toNat % m) (valueFlags m (m - 1 - v.1.toNat % m) false s.nzvc.c) v.2 s := by
  intro m v
  have hr : (narrow ea.size (~~~v.1)).toNat = m - 1 - v.1.toNat % m := by
    rw [toNat_narrow_not (fetched_lt ea s), fetched_mod]
  have hlt : m - 1 - v.1.toNat % m < m := by
    have hm : 0 < m := Nat.two_pow_pos _
    omega
  refine writesOperand_of_modifying (f := fun v u => logicAlu ea.size (narrow ea.size (~~~v)) u.nzvc) rfl hea hea hr
    ?flags hlt
  case flags =>
    rw [logicAlu, fetched_nzvc, logicFlags_of_lt (hr.trans_lt hlt), hr]

/-- Settles O22: AND, OR, XOR by `loadsRegister_bitwise`, NOT by `writesOperand_not`. -/
theorem logic : Obligations.Logic := fun _ _ =>
  ⟨fun _ => ⟨loadsRegister_bitwise (op := (· &&& ·)) (g := (· && ·)) rfl rfl fun _ _ _ => BitVec.getLsbD_and,
      loadsRegister_bitwise (op := (· ||| ·)) (g := (· || ·)) rfl rfl fun _ _ _ => BitVec.getLsbD_or,
      loadsRegister_bitwise (op := (· ^^^ ·)) (g := (· != ·)) rfl rfl fun _ _ _ => BitVec.getLsbD_xor⟩,
    writesOperand_not⟩

end Sys2Proof.Machine
end

section
/-! Proofs. The shifts and rotates as arithmetic: one position at the operand's width (R270 to R277). -/

namespace Sys2Proof.Machine

variable {s : State} {ea : EA} {i : Instr} {sz : Size} {v : Word}

/-! ## The value moved -/

theorem half_two_pow_bits (sz : Size) : 2 ^ sz.bits / 2 = 2 ^ (sz.bits - 1) := by cases sz <;> rfl

theorem toNat_bit (b : Bool) : (bit 16 b).toNat = b.toNat := by cases b <;> rfl

theorem toNat_shiftLeft (sz : Size) (v : Word) : (shiftLeft sz v).toNat = 2 * (v.toNat % 2 ^ sz.bits) % 2 ^ sz.bits := by
  rw [shiftLeft, toNat_narrow, BitVec.toNat_shiftLeft, Nat.shiftLeft_eq]
  cases sz <;> simp only [Size.bits] <;> omega

/-- The bit that enters at the bottom (R274, R276). -/
theorem toNat_shiftLeft_or_bit (sz : Size) (v : Word) (b : Bool) :
    (shiftLeft sz v ||| bit 16 b).toNat = 2 * (v.toNat % 2 ^ sz.bits) % 2 ^ sz.bits + b.toNat := by
  have hb : b.toNat < 2 ^ 1 := b.toNat_lt
  have heven : 2 * (v.toNat % 2 ^ sz.bits) % 2 ^ sz.bits = 2 ^ 1 * (v.toNat % 2 ^ (sz.bits - 1)) := by
    cases sz <;> simp only [Size.bits] <;> omega
  rw [BitVec.toNat_or, toNat_shiftLeft, toNat_bit, heven, Nat.two_pow_add_eq_or_of_lt hb]

theorem shiftLeft_add_lt (sz : Size) (x : Nat) (b : Bool) : 2 * x % 2 ^ sz.bits + b.toNat < 2 ^ sz.bits := by
  have hb := b.toNat_le
  cases sz <;> simp only [Size.bits] <;> omega

theorem toNat_shiftRight (hv : v.toNat < 2 ^ sz.bits) : (v >>> 1).toNat = v.toNat % 2 ^ sz.bits / 2 := by
  rw [BitVec.toNat_ushiftRight, Nat.shiftRight_eq_div_pow, Nat.mod_eq_of_lt hv, Nat.pow_one]

theorem toNat_atTop (sz : Size) (b : Bool) : (atTop sz b).toNat = 2 ^ (sz.bits - 1) * b.toNat := by
  cases sz <;> cases b <;> rfl

/-- The bit that enters at the top (R271, R275, R277). -/
theorem toNat_shiftRight_or_atTop (hv : v.toNat < 2 ^ sz.bits) (b : Bool) :
    ((v >>> 1) ||| atTop sz b).toNat = v.toNat % 2 ^ sz.bits / 2 + b.toNat * (2 ^ sz.bits / 2) := by
  have hlow : v.toNat % 2 ^ sz.bits / 2 < 2 ^ (sz.bits - 1) := by
    cases sz <;> simp only [Size.bits] <;> omega
  rw [BitVec.toNat_or, toNat_shiftRight hv, toNat_atTop, Nat.or_comm, ← Nat.two_pow_add_eq_or_of_lt hlow,
    half_two_pow_bits, Nat.mul_comm, Nat.add_comm]

theorem shiftRight_add_lt (sz : Size) (x : Nat) (b : Bool) :
    x % 2 ^ sz.bits / 2 + b.toNat * (2 ^ sz.bits / 2) < 2 ^ sz.bits := by
  cases b <;> cases sz <;> simp only [Size.bits, Bool.toNat_true, Bool.toNat_false] <;> omega

/-! ## The bit that leaves -/

theorem lowBit_eq (sz : Size) (v : Word) : v.getLsbD 0 = decide (v.toNat % 2 ^ sz.bits % 2 = 1) := by
  have hbit : v.getLsbD 0 = decide (v.toNat % 2 = 1) := Nat.testBit_zero _
  rw [hbit, decide_eq_decide]
  cases sz <;> simp only [Size.bits] <;> omega

/-- SHAL's result has the sign bit of the doubled value (R270). -/
theorem topBit_shiftLeft (sz : Size) (v : Word) : topBit sz (shiftLeft sz v) =
    decide (2 ^ sz.bits ≤ 2 * (2 * (v.toNat % 2 ^ sz.bits) % 2 ^ sz.bits)) := by
  rw [topBit_eq, toNat_shiftLeft, Nat.mod_mod]

/-! ## The instructions -/

/-- A read-modify-write instruction whose result and flags are those of a shift (R270 to R277). -/
theorem writesOperand_of_shifted {f : Word → State → Alu} {r : Word} {n : Nat} {x y x' y' : Bool}
    (h : exec i s = modifying (changeable ea) ea s f) (hea : ea.regOrMem = true)
    (hf : f (s.fetched ea).1 (s.fetched ea).2 = shifted ea.size r x y) (hr : r.toNat = n) (hx : x = x') (hy : y = y')
    (hlt : n < 2 ^ ea.size.bits) :
    WritesOperand i ea n (valueFlags (2 ^ ea.size.bits) n x' y') (s.fetched ea).2 s := by
  subst hr hx hy
  refine writesOperand_of_modifying h hea hea (by rw [hf, shifted]) ?flags hlt
  case flags => rw [hf, shifted, topBit_eq, isZero_eq, Nat.mod_eq_of_lt hlt, valueFlags]

/-- Settles O23: by `writesOperand_of_shifted`, with the value moved left or right, the bit that enters and the bit that
leaves as arithmetic. -/
theorem shifts : Obligations.Shifts := by
  intro ea s hea m v a top low c left right half
  have hv : v.1.toNat < m := fetched_lt ea s
  have htop : topBit ea.size v.1 = top := topBit_eq ea.size v.1
  have hlow : v.1.getLsbD 0 = low := lowBit_eq ea.size v.1
  have hc : v.2.nzvc.c = s.nzvc.c := congrArg Nzvc.c fetched_nzvc
  have hsign : topBit ea.size (shiftLeft ea.size v.1) = decide (m ≤ 2 * left) := topBit_shiftLeft ea.size v.1
  have hleft : (shiftLeft ea.size v.1).toNat = left := toNat_shiftLeft ea.size v.1
  have hleftIn : ∀ {b b' : Bool}, b = b' → (shiftLeft ea.size v.1 ||| bit 16 b).toNat = left + b'.toNat :=
    fun hb => hb ▸ toNat_shiftLeft_or_bit ea.size v.1 _
  have hrightIn : ∀ {b b' : Bool}, b = b' → ((v.1 >>> 1) ||| atTop ea.size b).toNat = right + b'.toNat * half :=
    fun hb => hb ▸ toNat_shiftRight_or_atTop hv _
  have hleftLt : ∀ b : Bool, left + b.toNat < m := shiftLeft_add_lt ea.size a
  have hrightLt : ∀ b : Bool, right + b.toNat * half < m := shiftRight_add_lt ea.size v.1.toNat
  have hrightLt0 : right < m := (Nat.le_add_right _ _).trans_lt (hrightLt false)
  refine ⟨?shal, ?shll, ?rotl, ?rotxl, ?shar, ?shlr, ?rotr, ?rotxr⟩
  case shal =>
    exact writesOperand_of_shifted (f := fun v _ => shalOp ea.size v) rfl hea rfl hleft (congrArg₂ _ htop hsign) htop
      (hleftLt false)
  case shll =>
    exact writesOperand_of_shifted (f := fun v _ => shllOp ea.size v) rfl hea rfl hleft rfl htop (hleftLt false)
  case rotl =>
    exact writesOperand_of_shifted (f := fun v _ => rotlOp ea.size v) rfl hea rfl (hleftIn htop) rfl htop (hleftLt _)
  case rotxl =>
    exact writesOperand_of_shifted (f := fun v u => rotxlOp ea.size u.nzvc.c v) rfl hea rfl (hleftIn hc) rfl htop
      (hleftLt _)
  case shar =>
    exact writesOperand_of_shifted (f := fun v _ => sharOp ea.size v) rfl hea rfl (hrightIn htop) rfl hlow (hrightLt _)
  case shlr =>
    exact writesOperand_of_shifted (f := fun v _ => shlrOp ea.size v) rfl hea rfl (toNat_shiftRight hv) rfl hlow
      hrightLt0
  case rotr =>
    exact writesOperand_of_shifted (f := fun v _ => rotrOp ea.size v) rfl hea rfl (hrightIn hlow) rfl hlow (hrightLt _)
  case rotxr =>
    exact writesOperand_of_shifted (f := fun v u => rotxrOp ea.size u.nzvc.c v) rfl hea rfl (hrightIn hc) rfl hlow
      (hrightLt _)

end Sys2Proof.Machine
end

section
/-! Proofs. The bit instructions: one bit of the operand changes, or none (R280 to R288). -/

namespace Sys2Proof.Machine

variable {s : State} {ea : EA} {i : Instr} {n : Nat}

/-! ## The bit number -/

theorem mod_size_bits_lt (x : Nat) (sz : Size) : x % sz.bits < sz.bits := Nat.mod_lt _ (by cases sz <;> decide)

/-- Only the register's low bits count (R280). -/
theorem bitNumberR_eq (sz : Size) (v : Word) : bitNumberR sz v = v.toNat % sz.bits := by
  have hlow : (v.extractLsb' 0 4).toNat = v.toNat % 16 := by simp
  rw [bitNumberR, hlow]
  cases sz <;> simp only [Size.bits] <;> omega

/-! ## One bit of a word -/

/-- `op`, given a value and the mask of one bit, changes that bit by `new` (R281 to R286). -/
def ChangesMaskedBit (op : Word → Word → Word) (new : Bool → Bool) : Prop :=
  ∀ (v : Word) (n k : Nat), k < 16 → (op v (1#16 <<< n)).getLsbD k = if k = n then new (v.getLsbD k) else v.getLsbD k

/-- The mask in a word with its bit set (R281, R282). -/
theorem changesMaskedBit_or : ChangesMaskedBit (fun v m => v ||| m) fun _ => true := by
  intro v n k hk
  rw [BitVec.getLsbD_or, getLsbD_oneShift n hk]
  by_cases h : k = n <;> simp [h]

/-- The mask's complement keeps the other bits (R283, R284). -/
theorem changesMaskedBit_andNot : ChangesMaskedBit (fun v m => v &&& ~~~m) fun _ => false := by
  intro v n k hk
  rw [BitVec.getLsbD_and, BitVec.getLsbD_not, getLsbD_oneShift n hk, decide_eq_true hk]
  by_cases h : k = n <;> simp [h]

/-- The mask differs from 0 in one bit (R285, R286). -/
theorem changesMaskedBit_xor : ChangesMaskedBit (fun v m => v ^^^ m) fun x => !x := by
  intro v n k hk
  rw [BitVec.getLsbD_xor, getLsbD_oneShift n hk]
  by_cases h : k = n <;> simp [h]

/-- Changing a bit below the width leaves no bit above it. -/
theorem ChangesMaskedBit.lt {op : Word → Word → Word} {new : Bool → Bool} (hop : ChangesMaskedBit op new) {sz : Size}
    {v : Word} (hv : v.toNat < 2 ^ sz.bits) (hn : n < sz.bits) : (op v (1#16 <<< n)).toNat < 2 ^ sz.bits := by
  refine Nat.lt_pow_two_of_testBit _ fun k hk => ?_
  by_cases hk16 : k < 16
  · refine (hop v n k hk16).trans ?_
    rw [if_neg (by omega)]
    exact testBit_of_bits_le hv hk
  · exact BitVec.getLsbD_of_ge _ _ (Nat.not_lt.1 hk16)

/-! ## The instructions -/

/-- The flags of a bit instruction: Z from the bit before, the others as they were (R280). -/
theorem fetched_bitFlags (ea : EA) (s : State) (n : Nat) :
    bitFlags (s.fetched ea).1 n (s.fetched ea).2.nzvc = { s.nzvc with z := !(s.fetched ea).1.toNat.testBit n } := by
  rw [fetched_nzvc]
  rfl

/-- A bit instruction that writes its operand; `number` may read a register (R281 to R286). -/
theorem changesBit_of_exec {op : Word → Word → Word} {new : Bool → Bool} {number : State → Nat}
    (h : exec i s = modifying (changeable ea) ea s fun v u => bitAlu (number u) op v u) (hop : ChangesMaskedBit op new)
    (hea : ea.regOrMem = true) (hnumber : number (s.fetched ea).2 = n) (hn : n < ea.size.bits) :
    changesBit i ea n new s := by
  subst hnumber
  have hlt := hop.lt (fetched_lt ea s) hn
  rw [changesBit, fetched_mod]
  exact ⟨_, hlt, fun k hk => hop _ _ k (hk.trans_le (bits_le _)),
    writesOperand_of_modifying h hea hea rfl (fetched_bitFlags ea s _) hlt⟩

/-- A bit instruction that only tests (R287, R288). -/
theorem testsBit_of_exec {number : State → Nat}
    (h : exec i s = reading (changeable ea) ea s fun v u => u.setNzvc (bitFlags v (number u) u.nzvc))
    (hea : ea.regOrMem = true) (hnumber : number (s.fetched ea).2 = n) : testsBit i ea n s := by
  subst hnumber
  rw [testsBit, ← fetched_bitFlags]
  exact readsOperand_of_exec (h.trans (reading_of_admitted hea _))

/-- Settles O24: the number from the immediate, then from the register by `bitNumberR_eq`. -/
theorem bitInstructions : Obligations.BitInstructions := by
  refine fun ea s hea => ⟨fun b => ?immediate, fun rs => ?register⟩
  case immediate =>
    have hn := mod_size_bits_lt b.toNat ea.size
    exact ⟨changesBit_of_exec (number := fun _ => bitNumberI ea.size b) rfl changesMaskedBit_or hea rfl hn,
      changesBit_of_exec (number := fun _ => bitNumberI ea.size b) rfl changesMaskedBit_andNot hea rfl hn,
      changesBit_of_exec (number := fun _ => bitNumberI ea.size b) rfl changesMaskedBit_xor hea rfl hn,
      testsBit_of_exec (number := fun _ => bitNumberI ea.size b) rfl hea rfl⟩
  case register =>
    have hnumber := bitNumberR_eq ea.size ((s.fetched ea).2.reg rs)
    have hn := mod_size_bits_lt ((s.fetched ea).2.reg rs).toNat ea.size
    exact ⟨changesBit_of_exec (number := fun u => bitNumberR ea.size (u.reg rs)) rfl changesMaskedBit_or hea hnumber hn,
      changesBit_of_exec (number := fun u => bitNumberR ea.size (u.reg rs)) rfl changesMaskedBit_andNot hea hnumber hn,
      changesBit_of_exec (number := fun u => bitNumberR ea.size (u.reg rs)) rfl changesMaskedBit_xor hea hnumber hn,
      testsBit_of_exec (number := fun u => bitNumberR ea.size (u.reg rs)) rfl hea hnumber⟩

end Sys2Proof.Machine
end

section
/-! Proofs. Conditional branches, the loop primitive and jumps (R300 to R316, R320, R321, R324, R325, R330 to R332). -/

namespace Sys2Proof.Machine

variable {s : State} {i : Instr}

/-! ## Offsets -/

theorem toNat_add_word (a b : Word) : ((a + b).toNat : Int) = ((a.toNat : Int) + b.toNat) % 0x10000 := by
  rw [BitVec.toNat_add]
  omega

/-- PC plus a displacement of either size (R124, R300). -/
theorem toNat_add_dispValue (a : Word) (d : Disp) :
    ((a + dispValue d).toNat : Int) = ((a.toNat : Int) + dispNumber d) % 0x10000 := by
  cases d with
  | d8 d => exact toNat_add_sext16 a d
  | d16 d => exact toNat_add_word a d

/-- R[7] plus an immediate of either size (R124, R334). -/
theorem toNat_add_immValue (a : Word) (i : Imm) :
    ((a + immValue i).toNat : Int) = ((a.toNat : Int) + immNumber i) % 0x10000 := by
  cases i with
  | i8 v => exact toNat_add_sext16 a v
  | i16 v => exact toNat_add_word a v

theorem toNat_jumpTarget (j : JumpEA) (s : State) : ((s.jumpTarget j).toNat : Int) = jumpOffset j s := by
  cases j with
  | ind n => rfl
  | disp8 n d => exact toNat_add_sext16 (s.reg n) d
  | disp16 n d => exact toNat_add_word (s.reg n) d

/-! ## Branches -/

theorem branchIf_pc (b : Bool) (d : Word) (s : State) :
    (branchIf b d s).cpu.pc = if b = true then s.cpu.pc + d else s.cpu.pc := rfl

/-- The table of R300: each code's condition as a statement about the flags. -/
theorem cond_table (f : Nzvc) :
    cond 2 f = decide (f.c = false ∧ f.z = false) ∧ cond 3 f = decide (f.c = true ∨ f.z = true) ∧
    cond 4 f = decide (f.c = false) ∧ cond 5 f = decide (f.c = true) ∧
    cond 6 f = decide (f.z = false) ∧ cond 7 f = decide (f.z = true) ∧
    cond 8 f = decide (f.v = false) ∧ cond 9 f = decide (f.v = true) ∧
    cond 10 f = decide (f.n = false) ∧ cond 11 f = decide (f.n = true) ∧
    cond 12 f = decide (f.n = f.v) ∧ cond 13 f = decide (f.n ≠ f.v) ∧
    cond 14 f = decide (f.z = false ∧ f.n = f.v) ∧ cond 15 f = decide (f.z = true ∨ f.n ≠ f.v) := by
  simp [cond, Bool.decide_and, Bool.decide_or, bne, Bool.beq_eq_decide_eq]

/-- An instruction that branches on a code of R300 branches on what the code's condition says. -/
theorem branchesIf_of_exec {cc : Nat} {b : Bool} {d : Disp} (h : exec i s = branchOn cc d s)
    (hcond : cond cc s.nzvc = b) : branchesIf i b d s := by
  subst hcond
  refine ⟨_, h, rfl, ?_⟩
  rw [branchIf_pc]
  split_ifs
  · exact toNat_add_dispValue s.cpu.pc d
  · rfl

/-- Settles O25: BRA and BRN by definition, the other conditions by `cond_table`. -/
theorem branches : Obligations.Branches := by
  intro d s n z v c
  obtain ⟨hhi, hls, hcc, hcs, hne, heq, hvc, hvs, hpl, hmi, hge, hlt, hgt, hle⟩ := cond_table s.nzvc
  exact ⟨branchesIf_of_exec rfl rfl, branchesIf_of_exec rfl rfl, branchesIf_of_exec rfl hhi,
    branchesIf_of_exec rfl hls, branchesIf_of_exec rfl hcc, branchesIf_of_exec rfl hcs, branchesIf_of_exec rfl hne,
    branchesIf_of_exec rfl heq, branchesIf_of_exec rfl hvc, branchesIf_of_exec rfl hvs, branchesIf_of_exec rfl hpl,
    branchesIf_of_exec rfl hmi, branchesIf_of_exec rfl hge, branchesIf_of_exec rfl hlt, branchesIf_of_exec rfl hgt,
    branchesIf_of_exec rfl hle⟩

/-! ## The loop primitive -/

/-- The counter and PC after a step of the loop primitive, and what it leaves alone (R330). -/
theorem loopStep_effect (rc : Reg) (d : Byte) (s : State) :
    let t := loopStep rc d s
    t = { s with cpu.regs := t.cpu.regs, cpu.pc := t.cpu.pc } ∧ OtherRegs rc s t ∧
      (t.reg rc).toNat = ((s.reg rc).toNat + 0xFFFF) % 0x10000 ∧
      (t.cpu.pc.toNat : Int) =
        if t.reg rc = s.params.scbTerminal then (s.cpu.pc.toNat : Int)
        else ((s.cpu.pc.toNat : Int) + d.toInt) % 0x10000 := by
  intro t
  have hcounter : t.reg rc = s.reg rc - 1#16 := reg_setReg_same s rc _
  refine ⟨rfl, fun m hm => reg_setReg_other s rc m _ hm, ?counter, ?pc⟩
  case counter =>
    rw [hcounter, BitVec.toNat_sub, Nat.add_comm]
    rfl
  case pc =>
    have hpc : t.cpu.pc = if t.reg rc = s.params.scbTerminal then s.cpu.pc else s.cpu.pc + sext16 d := by
      rw [hcounter]
      exact (if_congr bne_iff_ne rfl rfl).trans (ite_not _ _ _)
    rw [hpc]
    split_ifs
    · rfl
    · exact toNat_add_sext16 s.cpu.pc d

/-- Settles O31: SCB/NE and SCB/EQ by the value of Z, every loop by `loopStep_effect`. -/
theorem loopPrimitive : Obligations.LoopPrimitive := by
  intro rc d s loops
  have hloops : ∀ i, exec i s = .next (loopStep rc d s) → loops i := fun i h => ⟨_, h, loopStep_effect rc d s⟩
  have hne : exec (.scbNe rc d) s = .next (if !s.nzvc.z then s else loopStep rc d s) := rfl
  have heq : exec (.scbEq rc d) s = .next (if s.nzvc.z then s else loopStep rc d s) := rfl
  refine ⟨hloops _ rfl, ?_⟩
  cases hz : s.nzvc.z with
  | true =>
    rw [hz] at hne heq
    exact ⟨hloops _ hne, heq⟩
  | false =>
    rw [hz] at hne heq
    exact ⟨hne, hloops _ heq⟩

/-! ## Jumps -/

theorem toNat_nextReg {n : Reg} (h : n ≠ .r7) : (nextReg n).toNat = n.toNat + 1 := by
  cases n with
  | r7 => exact absurd rfl h
  | r0 | r1 | r2 | r3 | r4 | r5 | r6 => rfl

theorem exec_pjmpInd {n : Reg} (h : n ≠ .r7) (s : State) :
    exec (.pjmpInd n) s = .next ((s.setCp (s.reg n).lo).setPc (s.reg (nextReg n))) := by
  change execPjmpInd n s = _
  rw [execPjmpInd, if_neg h]

/-- Settles O27: the register forms by `toNat_jumpTarget` and `exec_pjmpInd`. -/
theorem jumps : Obligations.Jumps := fun s =>
  ⟨fun _ => rfl, fun j => ⟨_, rfl, rfl, toNat_jumpTarget j s⟩, fun _ _ => rfl,
    fun n hn => ⟨_, exec_pjmpInd hn s, rfl, Word.toNat_lo _, nextReg n, toNat_nextReg hn, rfl⟩⟩

end Sys2Proof.Machine
end

section
/-! Proofs. What the branch conditions mean after CMP:G (R232, R300). -/

namespace Sys2Proof.Machine

section
variable {sz : Size} {a b : Nat} (ha : a < 2 ^ sz.bits) (hb : b < 2 ^ sz.bits)
include ha hb

theorem signedMod_inj : signedMod (2 ^ sz.bits) a = signedMod (2 ^ sz.bits) b ↔ a = b := by
  unfold signedMod Int.bmod
  cases sz <;> simp only [Size.bits] at * <;> split_ifs <;> omega

/-- Z after a compare (R176). -/
theorem diffFlags_z : (diffFlags (2 ^ sz.bits) a b 0).z = true ↔ a = b := by
  rw [diffFlags, decide_eq_true_iff, diffOf]
  cases sz <;> simp only [Size.bits] at * <;> omega

/-- N is V after a compare exactly where the signed difference is not negative: V says that N is not its sign (R176). -/
theorem diffFlags_n_eq_v : (diffFlags (2 ^ sz.bits) a b 0).n = (diffFlags (2 ^ sz.bits) a b 0).v ↔
    signedMod (2 ^ sz.bits) b ≤ signedMod (2 ^ sz.bits) a := by
  rw [diffFlags, decide_eq_decide, diffOf]
  unfold signedMod Int.bmod
  cases sz <;> simp only [Size.bits] at * <;> split_ifs <;> omega

end

/-- C after a compare is the borrow (R176). -/
theorem diffFlags_c (m a b : Nat) : (diffFlags m a b 0).c = true ↔ a < b := decide_eq_true_iff

theorem branchesIf.congr {i : Instr} {p q : Prop} [Decidable p] [Decidable q] {d : Disp} {s : State}
    (h : branchesIf i (decide p) d s) (hpq : p ↔ q) : branchesIf i (decide q) d s := decide_eq_decide.2 hpq ▸ h

/-- Settles O26: CMP:G leaves the flags of the difference (`compares`), the branches read them (`branches`). -/
theorem compareThenBranch : Obligations.CompareThenBranch := by
  intro ea rd d s u h m a b x y
  have hflags : u.nzvc = diffFlags m a b 0 := by
    obtain ⟨t, ht, hf, -⟩ := (compares ea s).1 rd
    obtain rfl : t = u := Host.Outcome.next.inj (ht.symm.trans h)
    exact hf
  have ha : a < m := mod_bits_lt ea.size _
  have hb : b < m := mod_bits_lt ea.size _
  have hc := diffFlags_c m a b
  have hz := diffFlags_z ha hb
  have hs : _ ↔ y ≤ x := diffFlags_n_eq_v ha hb
  have hxy : x = y ↔ a = b := signedMod_inj ha hb
  rw [← hflags] at hc hz hs
  clear_value x y
  obtain ⟨-, -, hhi, hls, hcc, hcs, hne, heq, -, -, -, -, hge, hlt, hgt, hle⟩ := branches d u
  simp only [← Bool.not_eq_true] at hhi hcc hne hgt
  simp only [ne_eq, hc, hz, hs] at hhi hls hcc hcs hne heq hge hlt hgt hle
  exact ⟨hhi.congr (by omega), hls.congr (by omega), hcc.congr (by omega), hcs, hne, heq, hge, hlt.congr (by omega),
    hgt.congr (by omega), hle.congr (by omega)⟩

end Sys2Proof.Machine
end

section
/-! Proofs. Calls and returns, wherever the stack lies (R318, R322, R323, R326 to R329, R337, R339, R170). -/

namespace Sys2Proof.Machine

variable {s : State} {i : Instr}

/-! ## Registers written back -/

/-- PC written and written back. -/
theorem setPc_back {t : State} {v : Word} (h : t.cpu.pc = v) (a : Word) : (t.setPc a).setPc v = t := h ▸ rfl

/-- CP and PC written and written back. -/
theorem setCpPc_back {t : State} {p : Byte} {v : Word} (hpc : t.cpu.pc = v) (hcp : t.cpu.cp = p) (q : Byte) (a : Word) :
    (((t.setCp q).setPc a).setPc v).setCp p = t := hpc ▸ hcp ▸ rfl

theorem setReg_self (s : State) (n : Reg) : s.setReg n (s.reg n) = s := by cases n <;> rfl

theorem setReg_setReg (s : State) (n : Reg) (v w : Word) : (s.setReg n v).setReg n w = s.setReg n w := by
  cases n <;> rfl

/-- A register written and written back. -/
theorem setReg_back {t : State} {n : Reg} {v : Word} (h : t.reg n = v) (w : Word) : (t.setReg n w).setReg n v = t := by
  rw [setReg_setReg, ← h, setReg_self]

/-! ## Calls -/

/-- A call inside the code page pushes PC and goes to its target (R318, R322, R323). -/
theorem callsNear_of_exec {a : Word} {target : Int} (h : exec i s = .next (callTo a s)) (ha : (a.toNat : Int) = target) :
    callsNear i target s := by
  refine ⟨_, h, ha, ?_⟩
  rw [callTo, setPc_back (push16_pc s _)]
  exact pushed_push16 _

/-- A call across pages pushes PC, then CP, and goes to its target (R326, R339). -/
theorem callsFar_of_exec {p : Byte} {a : Word} (h : exec i s = .next (pageCallTo p a s)) :
    callsFar i p.toNat a.toNat s := by
  refine ⟨push16 s.cpu.pc s, _, h, rfl, rfl, pushed_push16 _, ?_⟩
  rw [pageCallTo, setCpPc_back (by simp) (by simp), BitVec.ofNat_toNat]
  exact pushed_push16 _

/-- Registers are told apart by their numbers. -/
theorem regNumber_injective : Function.Injective Reg.toNat :=
  Function.LeftInverse.injective (g := fun j => Reg.ofBits (BitVec.ofNat 3 j)) fun n => by cases n <;> rfl

/-- The only register whose successor has a number one higher is one that has a successor (R325). -/
theorem eq_nextReg {n k : Reg} (h : k.toNat = n.toNat + 1) : n ≠ .r7 ∧ k = nextReg n := by
  have hn : n ≠ .r7 := by
    rintro rfl
    have hk : ∀ k : Reg, k.toNat < 8 := fun k => by cases k <;> decide
    exact absurd (hk k) (Nat.not_lt.2 h.ge)
  exact ⟨hn, regNumber_injective (h.trans (toNat_nextReg hn).symm)⟩

theorem exec_pjsrInd {n : Reg} (h : n ≠ .r7) (s : State) :
    exec (.pjsrInd n) s = .next (pageCallTo (s.reg n).lo (s.reg (nextReg n)) s) :=
  congrArg Host.Outcome.next (if_neg h)

/-- Settles O28: the near forms by `callsNear_of_exec`, the page forms by `callsFar_of_exec`. -/
theorem calls : Obligations.Calls := by
  refine fun s => ⟨fun d => callsNear_of_exec rfl (toNat_add_dispValue s.cpu.pc d), fun a => callsNear_of_exec rfl rfl,
    fun j => callsNear_of_exec rfl (toNat_jumpTarget j s), fun p a => callsFar_of_exec rfl, fun n k hk => ?_⟩
  obtain ⟨hn, rfl⟩ := eq_nextReg hk
  rw [← Word.toNat_lo]
  exact callsFar_of_exec (exec_pjsrInd hn s)

/-! ## Returns -/

/-- An immediate of either size as a word and as a number (R124). -/
theorem immValue_eq (v : Imm) : immValue v = BitVec.ofInt 16 (immNumber v) := by
  cases v with
  | i8 v => rfl
  | i16 v => exact ((BitVec.ofInt_natCast 16 _).trans ((BitVec.ofNat_toNat 16 v).trans (BitVec.setWidth_eq v))).symm

theorem undone_deallocate (k : Int) (t : State) : undone k (deallocate (BitVec.ofInt 16 k) t) = t := by
  rw [undone, deallocate, setReg_setReg, reg_setReg_same, BitVec.add_sub_cancel, setReg_self]

/-- A return inside the code page, then R[7] moved (R327, R328). -/
theorem returnsNear_of_exec {k : Int} (h : exec i s = .next (deallocate (BitVec.ofInt 16 k) (returnNear s))) :
    returnsNear i k s := by
  refine ⟨_, h, ?_⟩
  rw [undone_deallocate, returnNear, setPc_back (pop16_pc s)]
  exact popped_pop16

/-- A return across pages, then R[7] moved (R329, R337). -/
theorem returnsFar_of_exec {k : Int} (h : exec i s = .next (deallocate (BitVec.ofInt 16 k) (returnFar s))) :
    returnsFar i k s := by
  refine ⟨(pop16 s).1, (pop16 s).2, _, h, Word.toNat_lo _, popped_pop16, ?_⟩
  rw [undone_deallocate, returnFar, setCpPc_back (by simp) (by simp)]
  exact popped_pop16

theorem deallocate_zero (t : State) : deallocate (BitVec.ofInt 16 0) t = t := by
  have hzero : BitVec.ofInt 16 0 = 0#16 := rfl
  rw [deallocate, hzero, BitVec.add_zero, setReg_self]

/-- Settles O29: RTS and PRTS as returns that move R[7] by nothing. -/
theorem returns : Obligations.Returns := by
  refine fun s => ⟨returnsNear_of_exec ?rts, returnsFar_of_exec ?prts, fun v => ⟨returnsNear_of_exec ?rtd,
    returnsFar_of_exec ?prtd⟩⟩
  case rts | prts => rw [deallocate_zero]; rfl
  case rtd | prtd => rw [← immValue_eq]; rfl

end Sys2Proof.Machine
end

section
/-! Proofs. Words pushed to RAM and popped again: returns undo calls, UNLK undoes LINK (R170, R327, R334, R336, R337). -/

namespace Sys2Proof.Machine

variable {s t : State} {pa : BusAddr} {v w : Word}

/-! ## A word in plain memory -/

/-- The word `v` stands at `pa`, in memory whose reads have no side effect. -/
def HoldsWord (s : State) (pa : BusAddr) (v : Word) : Prop :=
  s.plainAt .word pa = true ∧ s.valueAt .word pa = v.toNat

theorem SameBytes.target (h : SameBytes s t) (pb : BusAddr) : t.target pb = s.target pb := by
  rw [State.target, State.target, h.params, h.rame]

theorem SameBytes.trans {u : State} (h : SameBytes s t) (g : SameBytes t u) : SameBytes s u :=
  ⟨g.params.trans h.params, g.rame.trans h.rame, g.mem.trans h.mem⟩

theorem setReg_sameBytes (s : State) (n : Reg) (v : Word) : SameBytes s (s.setReg n v) := ⟨rfl, rfl, rfl⟩

theorem setPc_sameBytes (s : State) (a : Word) : SameBytes s (s.setPc a) := ⟨rfl, rfl, rfl⟩

theorem setCp_sameBytes (s : State) (p : Byte) : SameBytes s (s.setCp p) := ⟨rfl, rfl, rfl⟩

/-- General registers, PC and CP do not reach the bus. -/
theorem withControl_sameBytes (s : State) (rs : Regs) (pc : Word) (cp : Byte) :
    SameBytes s { s with cpu.regs := rs, cpu.pc := pc, cpu.cp := cp } := ⟨rfl, rfl, rfl⟩

theorem HoldsWord.congr (h : HoldsWord s pa v) (hbytes : SameBytes s t) : HoldsWord t pa v := by
  obtain ⟨hplain, hvalue⟩ := h
  exact ⟨(plainAt_congr hbytes.target).trans hplain, (valueAt_congr hbytes hplain).trans hvalue⟩

/-- A pop gives the word that stands where R[7] points and leaves memory as it is (R170). -/
theorem HoldsWord.pop16 (h : HoldsWord s s.popAddr v) : (pop16 s).1 = v ∧ SameBytes s (pop16 s).2 := by
  obtain ⟨hplain, hvalue⟩ := h
  obtain ⟨hword, hstate⟩ := pop16_plain hplain
  refine ⟨BitVec.eq_of_toNat_eq (hword.trans hvalue), ?_⟩
  rw [hstate]
  exact ⟨rfl, rfl, rfl⟩

theorem push16_target (hram : s.ramAt .word s.pushAddr = true) (pb : BusAddr) :
    (push16 v s).target pb = s.target pb := by
  obtain ⟨⟨hdev, -⟩, -⟩ := push16_ram v hram
  exact target_congr (push16_params s v) hdev pb

/-- A word pushed to RAM stands there. -/
theorem holdsWord_push16 (ha : s.arraysOk = true) (hram : s.ramAt .word s.pushAddr = true) :
    HoldsWord (push16 v s) s.pushAddr v := by
  obtain ⟨-, -, hstored⟩ := push16_ram v hram
  exact ⟨(plainAt_congr (push16_target hram)).trans (plainAt_of_ramAt hram), (hstored ha).2⟩

/-- A word outside the bytes a push stores stays. -/
theorem HoldsWord.push16 (h : HoldsWord s pa v) (hram : s.ramAt .word s.pushAddr = true)
    (hapart : ∀ g ∈ (accessBytes .word pa).map s.target, g ∉ (accessBytes .word s.pushAddr).map s.target) :
    HoldsWord (push16 w s) pa v := by
  obtain ⟨hplain, hvalue⟩ := h
  obtain ⟨-, hkept, -⟩ := push16_ram w hram
  refine ⟨(plainAt_congr (push16_target hram)).trans hplain, (valueAt_of_peek8 fun pb hpb => ?_).trans hvalue⟩
  exact peek8_of_arrayByte (List.all_eq_true.1 hplain pb hpb) (push16_target hram pb)
    (hkept _ (hapart _ (List.mem_map_of_mem hpb)))

/-! ## Two words -/

theorem pushAddr_push16 (v : Word) (s : State) : (push16 v s).pushAddr = busAddr s.cpu.tp (s.reg .r7 - 4#16) := by
  rw [State.pushAddr, push16_sp, push16_tp, BitVec.sub_sub]
  rfl

/-- Two words of RAM below R[7]: the place of a push, and that of a second one apart from it. -/
theorem ramAt_of_stackRam (v : Word) (h : s.stackRam (s.reg .r7 - 4#16) 2 = true) :
    s.ramAt .word s.pushAddr = true ∧ s.ramAt .word (push16 v s).pushAddr = true ∧
      ∀ g ∈ (accessBytes .word s.pushAddr).map s.target,
        g ∉ (accessBytes .word (push16 v s).pushAddr).map s.target := by
  have hupper : s.reg .r7 - 4#16 + BitVec.ofNat 16 (2 * 1) = s.reg .r7 - 2#16 := by bv_omega
  rw [State.stackRam, stackBytes_add s _ 1 1, stackBytes_one, stackBytes_one, hupper, ← pushAddr_push16 v] at h
  obtain ⟨hlow, hhigh, hapart⟩ := distinctRam_append.1 h
  exact ⟨hhigh, hlow, fun g hg hg' => hapart g hg' hg⟩

/-- Two words pushed to RAM stand there, the second below the first. -/
theorem holdsWord_push16_push16 (ha : s.arraysOk = true) (hram : s.stackRam (s.reg .r7 - 4#16) 2 = true) :
    HoldsWord (push16 w (push16 v s)) s.pushAddr v ∧ HoldsWord (push16 w (push16 v s)) (push16 v s).pushAddr w := by
  obtain ⟨hupper, hlower, hapart⟩ := ramAt_of_stackRam v hram
  have htarget : (push16 v s).target = s.target := funext (push16_target hupper)
  obtain ⟨-, -, hstored⟩ := push16_ram v hupper
  have hlower' : (push16 v s).ramAt .word (push16 v s).pushAddr = true := by
    rwa [State.ramAt, distinctRam_congr (push16_target hupper)]
  refine ⟨(holdsWord_push16 ha hupper).push16 hlower' ?_, holdsWord_push16 (hstored ha).1 hlower'⟩
  rwa [htarget]

theorem lo_setWidth (b : Byte) : Word.lo (b.setWidth 16) = b := by
  refine BitVec.eq_of_toNat_eq ?_
  rw [Word.toNat_lo, BitVec.toNat_setWidth_of_le (by decide)]
  exact Nat.mod_eq_of_lt b.isLt

/-! ## Returns after calls -/

section
variable {a : Word} {p : Byte} (ha : s.arraysOk = true) (htp : t.cpu.tp = s.cpu.tp)
include ha htp

/-- RTS finds the word that a call inside the code page pushed (R318, R327). -/
theorem returnNear_callTo (hram : s.ramAt .word s.pushAddr = true) (hbytes : SameBytes (callTo a s) t)
    (hsp : t.reg .r7 = (callTo a s).reg .r7) :
    (returnNear t).cpu.pc = s.cpu.pc ∧ (returnNear t).reg .r7 = s.reg .r7 := by
  have hsp' : t.reg .r7 = s.reg .r7 - 2#16 := by rw [hsp, callTo, reg_setPc, push16_sp]
  have hcall : SameBytes (push16 s.cpu.pc s) (callTo a s) := setPc_sameBytes _ a
  have haddr : t.popAddr = s.pushAddr := by rw [State.popAddr, htp, hsp', State.pushAddr]
  have hword : HoldsWord t t.popAddr s.cpu.pc := haddr ▸ (holdsWord_push16 ha hram).congr (hcall.trans hbytes)
  obtain ⟨hpc, -⟩ := hword.pop16
  refine ⟨hpc, ?_⟩
  rw [returnNear, reg_setPc, pop16_sp, hsp', BitVec.sub_add_cancel]

/-- PRTS finds the two words that a call across pages pushed (R326, R337, R339). -/
theorem returnFar_pageCallTo (hram : s.stackRam (s.reg .r7 - 4#16) 2 = true) (hbytes : SameBytes (pageCallTo p a s) t)
    (hsp : t.reg .r7 = (pageCallTo p a s).reg .r7) :
    (returnFar t).cpu.pc = s.cpu.pc ∧ (returnFar t).cpu.cp = s.cpu.cp ∧ (returnFar t).reg .r7 = s.reg .r7 := by
  have hsp' : t.reg .r7 = s.reg .r7 - 2#16 - 2#16 := by
    rw [hsp, pageCallTo, reg_setPc, reg_setCp, push16_sp, push16_sp]
  have hcall : SameBytes (push16 (s.cpu.cp.setWidth 16) (push16 s.cpu.pc s)) (pageCallTo p a s) :=
    (setCp_sameBytes _ p).trans (setPc_sameBytes _ a)
  obtain ⟨hupper, hlower⟩ := holdsWord_push16_push16 (v := s.cpu.pc) (w := s.cpu.cp.setWidth 16) ha hram
  have haddr : t.popAddr = (push16 s.cpu.pc s).pushAddr := by
    rw [State.popAddr, State.pushAddr, htp, hsp', push16_tp, push16_sp]
  have haddr' : (pop16 t).2.popAddr = s.pushAddr := by
    rw [State.popAddr, State.pushAddr, pop16_tp, pop16_sp, htp, hsp', BitVec.sub_add_cancel]
  have hfirst : HoldsWord t t.popAddr (s.cpu.cp.setWidth 16) := haddr ▸ hlower.congr (hcall.trans hbytes)
  obtain ⟨hpage, hpopped⟩ := hfirst.pop16
  have hsecond : HoldsWord (pop16 t).2 (pop16 t).2.popAddr s.cpu.pc :=
    haddr' ▸ hupper.congr ((hcall.trans hbytes).trans hpopped)
  obtain ⟨hpc, -⟩ := hsecond.pop16
  refine ⟨hpc, (congrArg Word.lo hpage).trans (lo_setWidth _), ?_⟩
  rw [returnFar, reg_setPc, reg_setCp, pop16_sp, pop16_sp, hsp', BitVec.sub_add_cancel, BitVec.sub_add_cancel]

end

/-- Settles O30: the five calls are `callTo` and `pageCallTo`, which `returnNear_callTo` and `returnFar_pageCallTo` undo. -/
theorem returnsInvertCalls : Obligations.ReturnsInvertCalls := by
  intro s t rs pc cp ha hram hrs
  constructor
  case left =>
    intro hcall
    obtain ⟨a, rfl⟩ : ∃ a, t = callTo a s := by
      rcases hcall with ⟨d, h⟩ | ⟨a, h⟩ | ⟨j, h⟩ <;> exact ⟨_, (Host.Outcome.next.inj h).symm⟩
    obtain ⟨hword, -⟩ := ramAt_of_stackRam s.cpu.pc hram
    have htp : (callTo a s).cpu.tp = s.cpu.tp := by rw [callTo, setPc_cpu_tp, push16_tp]
    exact ⟨_, rfl, returnNear_callTo ha htp hword (withControl_sameBytes _ rs pc _) hrs⟩
  case right =>
    intro hcall
    obtain ⟨p, a, rfl⟩ : ∃ p a, t = pageCallTo p a s := by
      rcases hcall with ⟨p, a, h⟩ | ⟨n, hn, h⟩
      · exact ⟨p, a, (Host.Outcome.next.inj h).symm⟩
      · rw [exec_pjsrInd hn] at h
        exact ⟨_, _, (Host.Outcome.next.inj h).symm⟩
    have htp : (pageCallTo p a s).cpu.tp = s.cpu.tp := by
      rw [pageCallTo, setPc_cpu_tp, setCp_cpu_tp, push16_tp, push16_tp]
    exact ⟨_, rfl, returnFar_pageCallTo ha htp hram (withControl_sameBytes _ rs pc cp) hrs⟩

/-! ## LINK and UNLK -/

/-- LINK pushes R[6], points R[6] at it and moves R[7] on (R334). -/
theorem exec_link (i : Imm) (s : State) : exec (.link i) s = .next
    (((push16 (s.reg .r6) s).setReg .r6 (s.reg .r7 - 2#16)).setReg .r7 (s.reg .r7 - 2#16 + immValue i)) := by
  change execLink i s = _
  rw [execLink, deallocate, reg_setReg_other _ _ _ _ (by decide), push16_sp]

/-- UNLK pops R[6] from where it points (R336). -/
theorem exec_unlk (s : State) : exec .unlk s =
    .next ((pop16 (s.setReg .r7 (s.reg .r6))).2.setReg .r6 (pop16 (s.setReg .r7 (s.reg .r6))).1) := rfl

/-- UNLK brings back R[6] and R[7] where R[6] points at the word that a push of R[6] to RAM stored. -/
theorem exec_unlk_of_pushed (ha : s.arraysOk = true) (hram : s.ramAt .word s.pushAddr = true)
    (hbytes : SameBytes (push16 (s.reg .r6) s) t) (htp : t.cpu.tp = s.cpu.tp) (hframe : t.reg .r6 = s.reg .r7 - 2#16) :
    ∃ u, exec .unlk t = .next u ∧ u.reg .r6 = s.reg .r6 ∧ u.reg .r7 = s.reg .r7 := by
  have haddr : (t.setReg .r7 (t.reg .r6)).popAddr = s.pushAddr := by
    rw [State.popAddr, State.pushAddr, reg_setReg_same, setReg_cpu_tp, htp, hframe]
  have hword : HoldsWord (t.setReg .r7 (t.reg .r6)) (t.setReg .r7 (t.reg .r6)).popAddr (s.reg .r6) :=
    haddr ▸ (holdsWord_push16 ha hram).congr (hbytes.trans (setReg_sameBytes t _ _))
  obtain ⟨hpopped, -⟩ := hword.pop16
  refine ⟨_, exec_unlk t, (reg_setReg_same _ _ _).trans hpopped, ?_⟩
  rw [reg_setReg_other _ _ _ _ (by decide), pop16_sp, reg_setReg_same, hframe, BitVec.sub_add_cancel]

/-- Settles O32: LINK as a push, UNLK as a pop, the two together by `exec_unlk_of_pushed`. -/
theorem linkAndUnlink : Obligations.LinkAndUnlink := by
  intro i s
  have hr6 : ∀ (u : State) (a b : Word), ((u.setReg .r6 a).setReg .r7 b).reg .r6 = a :=
    fun u a b => (reg_setReg_other _ _ _ b (by decide)).trans (reg_setReg_same u .r6 a)
  refine ⟨⟨_, exec_link i s, ?frame, ?allocated, ?pushed, fun ha hram x => ?undone⟩, ⟨_, exec_unlk s, ?sp, ?popped⟩⟩
  case frame =>
    rw [hr6, BitVec.toNat_sub, Nat.add_comm]
    rfl
  case allocated =>
    rw [hr6, reg_setReg_same]
    exact toNat_add_immValue _ i
  case pushed =>
    have hsp : ((push16 (s.reg .r6) s).setReg .r6 (s.reg .r7 - 2#16)).reg .r7 = s.reg .r7 - 2#16 :=
      (reg_setReg_other _ _ _ _ (by decide)).trans (push16_sp s _)
    have hkept : (push16 (s.reg .r6) s).reg .r6 = s.reg .r6 := push16_reg s _ .r6 (by decide)
    rw [hr6, setReg_back hsp, setReg_back hkept]
    exact pushed_push16 _
  case undone =>
    rw [setReg_setReg]
    exact exec_unlk_of_pushed ha hram ((setReg_sameBytes _ _ _).trans (setReg_sameBytes _ _ _))
      (by rw [setReg_cpu_tp, setReg_cpu_tp, push16_tp]) (hr6 _ _ _)
  case sp =>
    rw [reg_setReg_other _ _ _ _ (by decide), pop16_sp, reg_setReg_same, BitVec.toNat_add]
    rfl
  case popped =>
    have hkept : (pop16 (s.setReg .r7 (s.reg .r6))).2.reg .r6 = s.reg .r6 :=
      (pop16_reg _ .r6 (by decide)).trans (reg_setReg_other s .r7 .r6 _ (by decide))
    rw [reg_setReg_same, setReg_back hkept]
    exact popped_pop16

end Sys2Proof.Machine
end

section
/-! Proofs. Control registers as numbers: what a read gives, what a write leaves (R26, R350). -/

namespace Sys2Proof.Machine

variable {s u t : State} {ea : EA} {cr : CReg} {i : Instr}

/-! ## A read -/

theorem crSize_eq (cr : CReg) : crSize cr = cr.size := by cases cr <;> rfl

theorem toNat_crRead (s : State) (cr : CReg) : (s.crRead cr).toNat = controlValue cr s := by
  cases cr with
  | sr => rfl
  | ccr => exact toNat_zext_lo s.cpu.sr
  | br | ep | dp | tp => exact BitVec.toNat_setWidth_of_le (by decide)

/-- A control register has no bit above its width (R350). -/
theorem controlValue_lt (s : State) (cr : CReg) : controlValue cr s < 2 ^ cr.size.bits := by
  cases cr with
  | sr => exact s.cpu.sr.isLt
  | ccr => exact Nat.mod_lt _ (by decide)
  | br => exact s.cpu.br.isLt
  | ep => exact s.cpu.ep.isLt
  | dp => exact s.cpu.dp.isLt
  | tp => exact s.cpu.tp.isLt

/-- The specifier's side effect reaches no control register (R164, R166). -/
theorem crRead_resolveEA (ea : EA) (s : State) (cr : CReg) : (resolveEA ea s).2.crRead cr = s.crRead cr := by
  cases cr <;> simp [State.crRead]

/-- Nor does reading the operand. -/
theorem crRead_fetched (ea : EA) (s : State) (cr : CReg) : (s.fetched ea).2.crRead cr = s.crRead cr := by
  cases cr <;> simp [State.crRead, State.fetched]

/-! ## A write -/

theorem lo_eq_ofNat (v : Word) : v.lo = BitVec.ofNat 8 v.toNat :=
  BitVec.eq_of_toNat_eq ((Word.toNat_lo v).trans (BitVec.toNat_ofNat v.toNat 8).symm)

/-- A write of CCR keeps the high byte of SR and sets the four bits that exist (R26). -/
theorem toNat_setCcr_sr (s : State) (b : Byte) :
    (s.setCcr b).cpu.sr.toNat = s.cpu.sr.toNat / 256 * 256 + b.toNat % 16 := by
  have hmask : (b.setWidth 16 &&& 0x000F#16).toNat = b.toNat % 16 := by
    rw [BitVec.toNat_and, BitVec.toNat_setWidth_of_le (by decide)]
    exact Nat.and_two_pow_sub_one_eq_mod _ 4
  have hmerge : (s.setCcr b).cpu.sr = mergeReg .byte s.cpu.sr (b.setWidth 16 &&& 0x000F#16) := by
    rw [mergeReg, BitVec.and_assoc]
    rfl
  rw [hmerge, toNat_mergeReg, hmask]
  exact congrArg _ (Nat.mod_eq_of_lt ((Nat.mod_lt _ (by decide)).trans (by decide)))

/-- What LDC and its like leave in the registers they can reach (R350). -/
theorem controlAfter_crWrite (cr : CReg) (v : Word) (s : State) :
    controlAfter cr v.toNat s (s.crWrite cr v).suppressCheck := by
  cases cr with
  | sr =>
    refine ⟨?_, rfl, rfl, rfl, rfl⟩
    change v &&& 0x870F#16 = _
    rw [BitVec.ofNat_toNat, BitVec.setWidth_eq]
  | ccr =>
    refine ⟨BitVec.eq_of_toNat_eq ((toNat_setCcr_sr s v.lo).trans ?_), rfl, rfl, rfl, rfl⟩
    have hsr := s.cpu.sr.isLt
    rw [Word.toNat_lo, BitVec.toNat_ofNat]
    omega
  | br => exact ⟨rfl, lo_eq_ofNat v, rfl, rfl, rfl⟩
  | ep => exact ⟨rfl, rfl, lo_eq_ofNat v, rfl, rfl⟩
  | dp => exact ⟨rfl, rfl, rfl, lo_eq_ofNat v, rfl⟩
  | tp => exact ⟨rfl, rfl, rfl, rfl, lo_eq_ofNat v⟩

/-- `t` is `u` but for the registers a control-register write can reach, with the next check suppressed (R33). -/
def ControlWritten (u t : State) : Prop :=
  t = { u with cpu.sr := t.cpu.sr, cpu.br := t.cpu.br, cpu.ep := t.cpu.ep, cpu.dp := t.cpu.dp, cpu.tp := t.cpu.tp,
               cpu.suppress := true }

theorem controlWritten_crWrite (cr : CReg) (v : Word) (s : State) : ControlWritten s (s.crWrite cr v).suppressCheck := by
  cases cr <;> rfl

theorem ControlWritten.kept (h : ControlWritten u t) : ArraysKept u t ∧ MainSide u t ∧ ∀ m, t.reg m = u.reg m := by
  rw [h]
  exact ⟨fun g => by cases g <;> rfl, ⟨rfl, rfl, rfl, rfl, rfl⟩, fun _ => rfl⟩

/-! ## The instructions -/

/-- An instruction that reads its operand, then writes `v` to a control register (R351). -/
theorem writesControl_of_exec {v : Word} {f : Nat → Bool}
    (h : exec i s = .next ((s.fetched ea).2.crWrite cr v).suppressCheck) (hv : v.toNat < 2 ^ ea.size.bits)
    (hbits : ∀ k, v.toNat.testBit k = f k) : writesControl i ea cr f s := by
  have hwritten := controlWritten_crWrite cr v (s.fetched ea).2
  obtain ⟨harrays, hside, hregs⟩ := hwritten.kept
  obtain ⟨-, hsideRead, -, harraysRead, ⟨hother, hstepped⟩, -, -⟩ := fetched_registerFrame s ea
  exact ⟨_, v.toNat, h, hv, fun k _ => hbits k, controlAfter_crWrite cr v _, rfl, hwritten, harraysRead.trans harrays,
    hsideRead.trans hside, fun m hm hne => (hregs m).trans (hother m hm hne),
    fun m hm heq => (hregs m).trans (hstepped m hm heq)⟩

/-- An operation on the control register and an immediate that acts on each pair of bits by `g` (R353 to R355). -/
theorem writesControl_bitwise {op : Word → Word → Word} {g : Bool → Bool → Bool}
    (h : exec i s = reading (crImmOk ea cr) ea s fun v s1 => (s1.crWrite cr (op (s1.crRead cr) v)).suppressCheck)
    (himm : ea.cls = .imm) (hsize : ea.size = cr.size) (hg : g false false = false)
    (hop : ∀ c v k, (op c v).getLsbD k = g (c.getLsbD k) (v.getLsbD k)) :
    writesControl i ea cr (fun k => g ((controlValue cr s).testBit k) ((s.fetched ea).1.toNat.testBit k)) s := by
  have hadmitted : crImmOk ea cr = true := by
    rw [crImmOk, himm, crSize_eq, hsize, beq_self_eq_true, beq_self_eq_true, Bool.and_self]
  have hbits : ∀ k, (op ((s.fetched ea).2.crRead cr) (s.fetched ea).1).toNat.testBit k =
      g ((controlValue cr s).testBit k) ((s.fetched ea).1.toNat.testBit k) := by
    rw [crRead_fetched, ← toNat_crRead]
    exact hop _ _
  refine writesControl_of_exec (h.trans (reading_of_admitted hadmitted _)) ?_ hbits
  refine Nat.lt_pow_two_of_testBit _ fun k hk => ?_
  rw [hbits, testBit_of_bits_le (hsize ▸ controlValue_lt s cr) hk, testBit_of_bits_le (fetched_lt ea s) hk, hg]

/-- Settles O33: LDC by `writesControl_of_exec`, ANDC, ORC and XORC by `writesControl_bitwise`. -/
theorem controlRegisterWrites : Obligations.ControlRegisterWrites := by
  refine fun ea cr s hsize => ⟨?load, fun himm => ⟨?and, ?or, ?xor⟩⟩
  case load =>
    have hadmitted : (ea.size == crSize cr) = true := by rw [crSize_eq, hsize, beq_self_eq_true]
    have hexec : exec (.ldc ea cr) s = .next ((s.fetched ea).2.crWrite cr (s.fetched ea).1).suppressCheck :=
      reading_of_admitted hadmitted fun v s1 => (s1.crWrite cr v).suppressCheck
    exact writesControl_of_exec hexec (fetched_lt ea s) fun _ => rfl
  case and =>
    exact writesControl_bitwise (op := (· &&& ·)) (g := (· && ·)) rfl himm hsize rfl fun _ _ _ => BitVec.getLsbD_and
  case or =>
    exact writesControl_bitwise (op := (· ||| ·)) (g := (· || ·)) rfl himm hsize rfl fun _ _ _ => BitVec.getLsbD_or
  case xor =>
    exact writesControl_bitwise (op := (· ^^^ ·)) (g := (· != ·)) rfl himm hsize rfl fun _ _ _ => BitVec.getLsbD_xor

/-! ## STC -/

/-- Flags written as they were. -/
theorem setNzvc_self (s : State) : s.setNzvc s.nzvc = s := by
  have hflags : (s.setNzvc s.nzvc).nzvc = s.nzvc := nzvc_setNzvc s s.nzvc
  have hsr : (s.setNzvc s.nzvc).cpu.sr = s.cpu.sr := by
    refine BitVec.eq_of_getLsbD_eq fun k _ => ?_
    match k with
    | 0 => exact congrArg Nzvc.c hflags
    | 1 => exact congrArg Nzvc.v hflags
    | 2 => exact congrArg Nzvc.z hflags
    | 3 => exact congrArg Nzvc.n hflags
    | k + 4 => exact sr_setNzvc_high s s.nzvc _ (Nat.le_add_left 4 k)
  calc s.setNzvc s.nzvc
      _ = { s with cpu.sr := (s.setNzvc s.nzvc).cpu.sr } := rfl
      _ = s := by rw [hsr]

theorem writeOp_nzvc (sz : Size) (o : Operand) (v : Word) (s : State) : (writeOp sz o v s).nzvc = s.nzvc := by
  cases o with
  | reg n | imm w => rfl
  | mem pa => exact memWrite_nzvc s pa v sz

/-- STC writes the control register's value to the operand, and the flags as they were (R352). -/
theorem exec_stc (cr : CReg) (ea : EA) (s : State) :
    exec (.stc cr ea) s = general (ea.regOrMem && ea.size == crSize cr) ea s fun o s1 =>
      (writeOp ea.size o (s.crRead cr) s1).setNzvc s.nzvc := by
  have hflags : (writeOp ea.size (resolveEA ea s).1 (s.crRead cr) (resolveEA ea s).2).nzvc = s.nzvc :=
    (writeOp_nzvc _ _ _ _).trans (resolveEA_nzvc s ea)
  change execStc cr ea s = _
  rw [execStc, general, general, crRead_resolveEA, ← hflags, setNzvc_self]
  rfl

/-- Settles O34: STC as a write of its operand that reads none, by `exec_stc`. -/
theorem controlRegisterReads : Obligations.ControlRegisterReads := by
  intro ea cr s hea hsize
  have hadmitted : (ea.regOrMem && ea.size == crSize cr) = true := by
    rw [hea, crSize_eq, hsize, beq_self_eq_true, Bool.and_self]
  rw [← toNat_crRead]
  refine writesOperand_of_general (exec_stc cr ea s) hadmitted hea ?_
  rw [toNat_crRead, hsize]
  exact controlValue_lt s cr

end Sys2Proof.Machine
end

section
/-! Proofs. TRAPA, SLEEP, NOP, RTE (R356 to R359). -/

namespace Sys2Proof.Machine

variable {s u : State}

/-- SR, CP, PC and `suppress` written and written back. -/
theorem control_back (sr pc : Word) (cp : Byte) (hsr : u.cpu.sr = s.cpu.sr) (hcp : u.cpu.cp = s.cpu.cp)
    (hpc : u.cpu.pc = s.cpu.pc) (hsuppress : u.cpu.suppress = s.cpu.suppress) :
    { (((u.setSr sr).setCp cp).setPc pc).suppressCheck with
        cpu.sr := s.cpu.sr, cpu.cp := s.cpu.cp, cpu.pc := s.cpu.pc, cpu.suppress := s.cpu.suppress } = u := by
  rw [← hsr, ← hcp, ← hpc, ← hsuppress]
  rfl

/-- RTE takes status, page and PC off the stack, then writes them and `suppress` (R357). -/
theorem exec_rte (s : State) :
    let u := pop16 (pop16 s).2
    exec .rte s = .next ((((pop16 u.2).2.setSr (pop16 s).1).setCp u.1.lo).setPc (pop16 u.2).1).suppressCheck := rfl

/-- Settles O35: TRAPA by the bits of its mask, SLEEP and NOP by definition. -/
theorem trapSleepNop : Obligations.TrapSleepNop := by
  refine fun n s => ⟨⟨requestTrap n s, rfl, rfl, fun k hk => ?_⟩, rfl, rfl⟩
  rw [requestTrap_cpu_trapPending, BitVec.getLsbD_or, getLsbD_oneShift _ hk]

end Sys2Proof.Machine

/-! The model's own `returnFromException` is the name in `Sys2Proof.Machine`. -/

namespace Sys2Proof

open Machine

/-- Settles O36: three pops one after another, by `popped_pop16`; `control_back` takes the last one's state out of RTE's. -/
theorem returnFromException : Obligations.ReturnFromException := by
  refine fun s => ⟨(pop16 s).1, (pop16 (pop16 s).2).1, (pop16 s).2, (pop16 (pop16 s).2).2, _, exec_rte s, popped_pop16,
    popped_pop16, ?_, rfl, Word.toNat_lo _, rfl⟩
  rw [control_back _ _ _ (by simp) (by simp) (by simp) (by simp)]
  exact popped_pop16

end Sys2Proof
end

section
/-! Proofs. SUB8 reads back what its encoder writes (R405 to R477). -/

namespace Sys2Proof.Machine

/-- Settles O3: by `decodeSub_encode`, constructor by constructor. -/
theorem subDecodeEncode : Obligations.SubDecodeEncode := decodeSub_encode

end Sys2Proof.Machine
end

section
/-! Proofs. The bus of the sub core: where an address leads, what a read leaves alone, what a write reaches (R402). -/

namespace Sys2Proof.Machine

variable {s t u : State} {a : Word}

/-! ## The map -/

theorem subTarget_ram (h : a.toNat % 0x2000 < 0x80) : subTarget a = .ram (a.toNat % 0x2000) := if_pos h

theorem subTarget_rom (h : 0x1000 ≤ a.toNat % 0x2000) : subTarget a = .rom (a.toNat % 0x2000 - 0x1000) :=
  (if_neg (by omega)).trans ((if_neg (by omega)).trans ((if_neg (by omega)).trans
    ((if_neg (by omega)).trans (if_pos h))))

/-- The private RAM, read. -/
theorem subRead_ram {i : Nat} (h : subTarget a = .ram i) (s : State) : subRead a s = (s.sub.ram.read i, s) := by
  rw [subRead, h]

/-- The private RAM, written. -/
theorem subWrite_ram {i : Nat} (h : subTarget a = .ram i) (v : Byte) (s : State) :
    subWrite a v s = { s with sub.ram := s.sub.ram.write i v } := by
  rw [subWrite, h]

/-- The ROM, read. -/
theorem subRead_rom {i : Nat} (h : subTarget a = .rom i) (s : State) : subRead a s = (s.sub.rom.read i, s) := by
  rw [subRead, h]

/-- A byte of the zero page as an address. -/
theorem zeroPage_eq (z : Byte) : zeroPage z = BitVec.ofNat 16 z.toNat := (BitVec.ofNat_toNat 16 z).symm

theorem toNat_zeroPage (z : Byte) : (zeroPage z).toNat = z.toNat := BitVec.toNat_setWidth_of_le (by decide)

/-- The next byte of the zero page: 0x00 after 0xFF (R404, R405). -/
theorem zeroPage_add_one (z : Byte) : zeroPage (z + 1#8) = BitVec.ofNat 16 ((z.toNat + 1) % 256) := by
  rw [zeroPage_eq, BitVec.toNat_add]
  rfl

/-- The first half of the zero page is the private RAM. -/
theorem subTarget_zeroPage {z : Byte} (h : z.toNat < 0x80) : subTarget (zeroPage z) = .ram z.toNat := by
  have hmod : (zeroPage z).toNat % 0x2000 = z.toNat := by rw [toNat_zeroPage]; omega
  rw [subTarget_ram (by omega), hmod]

/-! ## Reads -/

theorem SubReadFrame.refl (s : State) : SubReadFrame s s :=
  ⟨⟨rfl, rfl, rfl, rfl, rfl, rfl, rfl, rfl, rfl⟩, rfl, fun _ => rfl⟩

theorem SubSide.trans (h : SubSide s t) (g : SubSide t u) : SubSide s u := by
  obtain ⟨h1, h2, h3, h4, h5, h6, h7, h8, h9⟩ := h
  obtain ⟨g1, g2, g3, g4, g5, g6, g7, g8, g9⟩ := g
  exact ⟨g1.trans h1, g2.trans h2, g3.trans h3, g4.trans h4, g5.trans h5, g6.trans h6, g7.trans h7, g8.trans h8,
    g9.trans h9⟩

theorem SubReadFrame.trans (h : SubReadFrame s t) (g : SubReadFrame t u) : SubReadFrame s u := by
  obtain ⟨hside, hsub, harrays⟩ := h
  obtain ⟨gside, gsub, garrays⟩ := g
  exact ⟨hside.trans gside, gsub.trans hsub, fun x => (garrays x).trans (harrays x)⟩

/-- What a read leaves alone: it changes only the link, and there no shared byte. -/
theorem subRead_frame (a : Word) (s : State) : SubReadFrame s (subRead a s).2 := by
  obtain ⟨l, h, hshram⟩ := subRead_shape s a
  rw [h]
  refine ⟨⟨rfl, rfl, rfl, rfl, rfl, rfl, rfl, rfl, rfl⟩, rfl, fun g => ?_⟩
  cases g with
  | shram i => exact congrArg (fun m => some (m.read i)) hshram
  | ram | acc | dev | rom | unmapped => rfl

theorem subReadWord_frame (a b : Word) (s : State) : SubReadFrame s (subReadWord a b s).2 :=
  (subRead_frame a s).trans (subRead_frame b _)

theorem subPlace_frame (m : SubMode) (s : State) : SubReadFrame s (subPlace m s).2 := by
  cases m with
  | indy z => exact subReadWord_frame _ _ s
  | acc | imm | zp | zpx | zpy | abs | absx | absy => exact SubReadFrame.refl s

theorem subLoad_frame (o : SubPlace) (s : State) : SubReadFrame s (subLoad o s).2 := by
  cases o with
  | mem e => exact subRead_frame e s
  | acc | imm => exact SubReadFrame.refl s

/-- Finding an operand and reading it leaves what a read leaves alone (R405). -/
theorem subOperand_frame (m : SubMode) (s : State) : SubReadFrame s (subOperand m s).2 :=
  (subPlace_frame m s).trans (subLoad_frame _ _)

theorem subPlace_sub (m : SubMode) (s : State) : (subPlace m s).2.sub = s.sub :=
  let ⟨_, hsub, _⟩ := subPlace_frame m s
  hsub

/-- An operand in memory is one read at its address (R405). -/
theorem subOperand_mem {m : SubMode} {e : Word} (h : (subPlace m s).1 = .mem e) :
    subOperand m s = subRead e (subPlace m s).2 := by
  rw [subOperand, h]
  rfl

/-! ## Writes -/

/-- A write to the device block changes the link, and there no shared byte, and the host's record. -/
theorem subDevWrite_link (i : Nat) (v : Byte) (s : State) :
    ∃ l o, subDevWrite i v s = { s with link := l, model.hostOut := o } ∧ l.shram = s.link.shram := by
  unfold subDevWrite
  split
  next r _ =>
    cases r with
    | uData c | uMode c | uBaud c => exact ⟨_, _, rfl, setUart_shram _ _ _⟩
    | uStat | mbox | sema | coll | ramdir | tpre | tcnt | ien | ipend | pout | pin => exact ⟨_, _, rfl, rfl⟩
  next => exact ⟨_, _, rfl, rfl⟩

theorem subWrite_side (a : Word) (v : Byte) (s : State) : SubSide s (subWrite a v s) := by
  obtain ⟨l, ram, o, h⟩ := subWrite_shape s a v
  rw [h]
  exact ⟨rfl, rfl, rfl, rfl, rfl, rfl, rfl, rfl, rfl⟩

/-- A write reaches no byte of an array but its own. -/
theorem subWrite_arraysKeptBut (a : Word) (v : Byte) (s : State) : SubArraysKeptBut a s (subWrite a v s) := by
  intro g hg
  unfold subWrite
  cases htarget : subTarget a with
  | ram i =>
    cases g with
    | ram j =>
      have hne : j ≠ i := fun hji => hg (hji ▸ htarget.symm)
      exact congrArg some (Memory.read_write_other v _ i j hne)
    | acc | dev | shram | rom | unmapped => rfl
  | shram i =>
    cases g with
    | shram j =>
      have hne : j ≠ i := fun hji => hg (hji ▸ htarget.symm)
      exact congrArg some (Memory.read_write_other v _ i j hne)
    | ram | acc | dev | rom | unmapped => rfl
  | dev i =>
    obtain ⟨l, o, h, hshram⟩ := subDevWrite_link i v s
    simp only [h]
    cases g with
    | shram j => exact congrArg (fun m => some (m.read j)) hshram
    | ram | acc | dev | rom | unmapped => rfl
  | acc i | rom i | unmapped => cases g <;> rfl

/-- What the canonical form of the arrays asks of the private and the shared RAM (R402). -/
theorem arraysOk_subRam (ha : s.arraysOk = true) : s.sub.ram.wf 0x80 = true ∧ s.link.shram.wf 0xC0 = true := by
  simp only [State.arraysOk, Bool.and_eq_true] at ha
  obtain ⟨⟨⟨-, hram⟩, hshram⟩, -⟩ := ha
  exact ⟨hram, hshram⟩

/-- A byte written to the private or the shared RAM is there. -/
theorem subWrite_stored (v : Byte) (ha : s.arraysOk = true) {j : Nat}
    (h : subTarget a = .ram j ∨ subTarget a = .shram j) : (subWrite a v s).subArrayByte (subTarget a) = some v := by
  obtain ⟨hram, hshram⟩ := arraysOk_subRam ha
  unfold subWrite
  obtain h | h := h
  · rw [h]
    exact congrArg some (Memory.read_write_same _ v _ _ j hram)
  · rw [h]
    exact congrArg some (Memory.read_write_same _ v _ _ j hshram)

theorem subWritten_subWrite (a : Word) (v : Byte) (s : State) : SubWritten a v s (subWrite a v s) :=
  ⟨rfl, subWrite_side a v s, subWrite_arraysKeptBut a v s, subWrite_sub s a v, fun ha _ h => subWrite_stored v ha h⟩

/-- A byte of the access flags written: its eight flags, and no other (R402). -/
theorem flag_setAccByte {i j : Nat} (l : Link) (v : Byte) (hj : j < 192) :
    (Link.setAccByte i v l).flag j = if j / 8 = i then v.getLsbD (j % 8) else l.flag j := by
  have hones : (0xFF#192).getLsbD (j - 8 * i) = decide (j - 8 * i < 8) := by
    change ((BitVec.allOnes 8).setWidth 192).getLsbD (j - 8 * i) = _
    rw [BitVec.getLsbD_setWidth, BitVec.getLsbD_allOnes, decide_eq_true (by omega : j - 8 * i < 192), Bool.true_and]
  rw [Link.flag, Link.flag, Link.setAccByte, BitVec.getLsbD_or, BitVec.getLsbD_and, BitVec.getLsbD_not,
    BitVec.getLsbD_shiftLeft, BitVec.getLsbD_shiftLeft, BitVec.getLsbD_setWidth, hones, decide_eq_true hj]
  by_cases hlow : j < 8 * i
  · have hne : j / 8 ≠ i := by omega
    simp [hlow, hne]
  · by_cases hin : j - 8 * i < 8
    · have heq : j / 8 = i := by omega
      have hmod : j - 8 * i = j % 8 := by omega
      have hlt : j % 8 < 192 := by omega
      simp [hlow, heq, hmod, hlt, Nat.mod_lt]
    · have hne : j / 8 ≠ i := by omega
      have hbit : v.getLsbD (j - 8 * i) = false := BitVec.getLsbD_of_ge v _ (Nat.not_lt.1 hin)
      simp [hlow, hin, hne, hbit]

/-! ## The addressing modes -/

/-- The indirect mode's pointer, low byte first, and Y (R405). -/
theorem toNat_ofBytes_add (h l y : Byte) :
    (Word.ofBytes h l + y.setWidth 16).toNat = (l.toNat + 256 * h.toNat + y.toNat) % 0x10000 := by
  rw [BitVec.toNat_add, Word.toNat_ofBytes, BitVec.toNat_setWidth_of_le (by decide)]
  omega

theorem toNat_zeroPage_add (z x : Byte) : (zeroPage (z + x)).toNat = (z.toNat + x.toNat) % 256 :=
  (toNat_zeroPage _).trans (BitVec.toNat_add z x)

theorem toNat_add_zeroExtend (a : Word) (x : Byte) : (a + x.setWidth 16).toNat = (a.toNat + x.toNat) % 0x10000 := by
  rw [BitVec.toNat_add, BitVec.toNat_setWidth_of_le (by decide)]

/-- A pointer in the private RAM is read without a side effect (R405). -/
theorem subReadWord_zeroPage {z : Byte} (h : z.toNat < 0x7F) (s : State) :
    subReadWord (zeroPage z) (zeroPage (z + 1#8)) s =
      (Word.ofBytes (s.sub.ram.read (z.toNat + 1)) (s.sub.ram.read z.toNat), s) := by
  have hnext : (z + 1#8).toNat = z.toNat + 1 := by
    rw [BitVec.toNat_add]
    exact Nat.mod_eq_of_lt (by change z.toNat + 1 < 256; omega)
  rw [subReadWord, subRead_ram (subTarget_zeroPage (by omega)), subRead_ram (subTarget_zeroPage (by omega)), hnext]

/-- Settles O45: the modes by their address as a number, reads and writes by the target of the address. -/
theorem subAddressing : Obligations.SubAddressing := by
  refine fun s z a => ⟨rfl, fun _ => rfl, ⟨_, rfl, toNat_zeroPage z⟩, ⟨_, rfl, toNat_zeroPage_add z _⟩,
    ⟨_, rfl, toNat_zeroPage_add z _⟩, rfl, ⟨_, rfl, toNat_add_zeroExtend a _⟩, ⟨_, rfl, toNat_add_zeroExtend a _⟩,
    ?indirect, rfl, fun _ => rfl, fun _ _ => subOperand_mem, fun m => subOperand_frame m s, ?map⟩
  case indirect =>
    rw [← zeroPage_eq, ← zeroPage_add_one]
    refine ⟨_, rfl, subReadWord_frame _ _ s, toNat_ofBytes_add _ _ _, fun hz => ?_⟩
    have hpointer := subReadWord_zeroPage hz s
    refine ⟨congrArg Prod.snd hpointer, ?_⟩
    rw [hpointer]
    exact toNat_ofBytes_add _ _ _
  case map =>
    intro n v
    split_ifs with hram hacc hdev hshram hrom
    · exact ⟨subRead_ram (subTarget_ram hram) s, subWrite_ram (subTarget_ram hram) v s⟩
    · have htarget : subTarget a = .acc (n - 0xC0) := (if_neg hram).trans (if_pos hacc)
      rw [subRead, subWrite, htarget]
      exact ⟨rfl, fun k hk => accByte_getLsbD _ _ hk, rfl, fun j hj => flag_setAccByte s.link v hj⟩
    · have htarget : subTarget a = .dev (n - 0xE0) := (if_neg hram).trans ((if_neg hacc).trans (if_pos hdev))
      rw [subRead, subWrite, htarget]
      exact ⟨rfl, rfl⟩
    · have htarget : subTarget a = .shram (n - 0x200) :=
        (if_neg hram).trans ((if_neg hacc).trans ((if_neg hdev).trans (if_pos hshram)))
      rw [subRead, subWrite, htarget]
      exact ⟨rfl, rfl⟩
    · rw [subRead, subWrite, subTarget_rom hrom]
      exact ⟨rfl, rfl⟩
    · have htarget : subTarget a = .unmapped :=
        (if_neg hram).trans ((if_neg hacc).trans ((if_neg hdev).trans ((if_neg hshram).trans (if_neg hrom))))
      rw [subRead, subWrite, htarget]
      exact ⟨rfl, rfl⟩

end Sys2Proof.Machine
end

section
/-! Proofs. Loads, transfers, additions and compares of the sub core: registers and flags (R406, R410 to R412, R417 to
R422, R430 to R434, R444). -/

namespace Sys2Proof.Machine

variable {s u : State} {m : SubMode} {i : Instr}

/-! ## P bit by bit -/

/-- The bits of P outside `written` are kept. -/
def KeptBits (written : List Nat) (p q : Byte) : Prop := ∀ k, k < 8 → k ∉ written → q.getLsbD k = p.getLsbD k

theorem keepsP_iff {t : State} {written : List Nat} : keepsP written s t ↔ KeptBits written s.sub.p t.sub.p := Iff.rfl

section
variable {written : List Nat} {p q r : Byte}

theorem KeptBits.refl : KeptBits written p p := fun _ _ _ => rfl

theorem KeptBits.withBit {n : Nat} (b : Bool) (h : KeptBits written p q) (hn : n ∈ written) :
    KeptBits written p (withBit n b q) := by
  intro k hk hkeep
  rw [getLsbD_withBit _ _ hk, if_neg (ne_of_mem_of_not_mem hn hkeep).symm]
  exact h k hk hkeep

theorem KeptBits.nz8 (h : KeptBits written p q) (hz : 1 ∈ written) (hn : 7 ∈ written) : KeptBits written p (nz8 r q) :=
  (h.withBit _ hz).withBit _ hn

end

theorem getLsbD_seven (b : Byte) : b.getLsbD 7 = decide (128 ≤ b.toNat) := by
  rw [BitVec.getLsbD, testBit_top (w := 7) b.isLt, decide_eq_decide]
  omega

/-! ## Loads and transfers -/

/-- With T clear an accumulator operation works on A and the operand (R407). -/
theorem subAccOp_closed (hT : s.pT = false) (f : Byte → Byte → Byte) : subAccOp m s f =
    ((subOperand m s).2.setA (f s.sub.a (subOperand m s).1)).setNz8 (f s.sub.a (subOperand m s).1) := by
  have hT' : (subOperand m s).2.pT = false := (subOperand_pT_pD m s).1.trans hT
  rw [subAccOp, hT', if_neg Bool.false_ne_true, subOperand_sub]

/-- A value put in A, X or Y after the operand is read, with its N and Z. -/
theorem subLoads_of_exec {dst : State → Byte} {a x y : Byte}
    (h : exec i s = .next
      ({ (subOperand m s).2 with sub.a := a, sub.x := x, sub.y := y }.setNz8 (subOperand m s).1))
    (hdst : dst ({ (subOperand m s).2 with sub.a := a, sub.x := x, sub.y := y }.setNz8 (subOperand m s).1) =
      (subOperand m s).1) : subLoads i m dst s := by
  refine ⟨_, h, hdst, ?nz, ?kept, rfl, (congrArg SubCore.s (subOperand_sub m s) :),
    (congrArg SubCore.spc (subOperand_sub m s) :)⟩
  case nz =>
    rw [hdst]
    exact nzOf_of_p rfl
  case kept => exact keepsP_nz8 rfl (fun k _ _ => congrArg (·.getLsbD k) (subOperand_p m s)) (by decide) (by decide)

/-- An instruction that ends with the N and Z of a value, P being as before. -/
theorem exec_setNz8 {v : Byte} (h : exec i s = .next (u.setNz8 v)) (hp : u.sub.p = s.sub.p) :
    ∃ t p, exec i s = .next t ∧ t = { u with sub.p := p } ∧ nzOf v t ∧ keepsP [1, 7] s t :=
  ⟨_, _, h, rfl, nzOf_of_p rfl, keepsP_nz8 rfl (fun k _ _ => congrArg (·.getLsbD k) hp) (by decide) (by decide)⟩

/-- Settles O46: the loads by `subLoads_of_exec`, the transfers by `exec_setNz8`. -/
theorem subLoadsAndTransfers : Obligations.SubLoadsAndTransfers := by
  intro s m
  have hsub := subOperand_sub m s
  refine ⟨fun hT => ?lda, ⟨subLoads_of_exec rfl rfl, fun t h => ?ldx⟩, ⟨subLoads_of_exec rfl rfl, fun t h => ?ldy⟩,
    ⟨exec_setNz8 rfl rfl, exec_setNz8 rfl rfl, exec_setNz8 rfl rfl, exec_setNz8 rfl rfl, exec_setNz8 rfl rfl⟩, rfl⟩
  case lda =>
    have hexec : exec (.s8Lda m) s = .next (((subOperand m s).2.setA (subOperand m s).1).setNz8 (subOperand m s).1) :=
      congrArg Host.Outcome.next (subAccOp_closed hT fun _ v => v)
    refine ⟨subLoads_of_exec hexec rfl, fun t h => ?_⟩
    obtain rfl := Host.Outcome.next.inj (hexec.symm.trans h)
    exact ⟨(congrArg SubCore.x hsub :), (congrArg SubCore.y hsub :)⟩
  case ldx =>
    obtain rfl := Host.Outcome.next.inj h
    exact ⟨(congrArg SubCore.a hsub :), (congrArg SubCore.y hsub :)⟩
  case ldy =>
    obtain rfl := Host.Outcome.next.inj h
    exact ⟨(congrArg SubCore.a hsub :), (congrArg SubCore.x hsub :)⟩

/-! ## ADC and SBC -/

/-- The signed sum overflows where both numbers have another sign than the result (R406). -/
theorem overflow_eq (a b : Byte) (c : Bool) :
    let r := BitVec.ofNat 8 (a.toNat + b.toNat + c.toNat)
    ((a ^^^ r) &&& (b ^^^ r)).getLsbD 7 =
      decide (a.toInt + b.toInt + (c.toNat : Int) < -128 ∨ 127 < a.toInt + b.toInt + (c.toNat : Int)) := by
  intro r
  have ha := a.isLt
  have hb := b.isLt
  have hc := c.toNat_le
  have hr : r.toNat = (a.toNat + b.toNat + c.toNat) % 256 := BitVec.toNat_ofNat _ 8
  rw [Bool.eq_iff_iff, decide_eq_true_iff, BitVec.getLsbD_and, BitVec.getLsbD_xor, BitVec.getLsbD_xor]
  simp only [getLsbD_seven, hr, BitVec.toInt_eq_toNat_cond, Bool.and_eq_true, bne_iff_ne, ne_eq,
    decide_eq_decide]
  split_ifs <;> omega

/-- A and the flags after the sum of A, a byte and C (R406). -/
theorem exec_adc8 {x : Byte}
    (h : exec i s = .next
      (((subOperand m s).2.setA (adc8 s.sub.a x s.sub.p).1).setP (adc8 s.sub.a x s.sub.p).2)) :
    let n := s.sub.a.toNat + x.toNat + s.pC.toNat
    let z := s.sub.a.toInt + x.toInt + (s.pC.toNat : Int)
    ∃ t, exec i s = .next t ∧ t.sub.a.toNat = n % 256 ∧ t.pC = decide (256 ≤ n) ∧
      t.pV = decide (z < -128 ∨ 127 < z) ∧ nzOf t.sub.a t ∧ keepsP [0, 1, 6, 7] s t ∧
      t = { (subOperand m s).2 with sub.a := t.sub.a, sub.p := t.sub.p } := by
  intro n z
  refine ⟨_, h, BitVec.toNat_ofNat n 8, ?carry, ?overflow, nzOf_of_p rfl, ?kept, rfl⟩
  case carry =>
    rw [State.pC, setP_sub_p, adc8, getLsbD_nz8 _ _ (by decide), getLsbD_withBit _ _ (by decide),
      getLsbD_withBit _ _ (by decide)]
    rfl
  case overflow =>
    rw [State.pV, setP_sub_p, adc8, getLsbD_nz8 _ _ (by decide), getLsbD_withBit _ _ (by decide)]
    exact overflow_eq s.sub.a x s.pC
  case kept => exact ((KeptBits.refl.withBit _ (by decide)).withBit _ (by decide)).nz8 (by decide) (by decide)

/-- With D and T clear ADC and SBC work in binary (R407). -/
theorem subArithOp_closed (hT : s.pT = false) (hD : s.pD = false) (f : Byte → Byte → Byte → Byte × Byte) :
    subArithOp m s f = ((subOperand m s).2.setA (f s.sub.a (subOperand m s).1 s.sub.p).1).setP
      (f s.sub.a (subOperand m s).1 s.sub.p).2 := by
  obtain ⟨hT', hD'⟩ := subOperand_pT_pD m s
  rw [subArithOp, hT', hD', hT, hD, Bool.or_self, if_neg Bool.false_ne_true, subOperand_sub]

/-- The complement SBC adds, as a number and as a signed number (R406). -/
theorem complement_numbers (b : Byte) :
    (b ^^^ 0xFF#8).toNat = 255 - b.toNat ∧ (b ^^^ 0xFF#8).toInt = -1 - b.toInt := by
  have hnot : b ^^^ 0xFF#8 = ~~~b := BitVec.xor_allOnes
  have hb := b.isLt
  have hnat : (b ^^^ 0xFF#8).toNat = 255 - b.toNat := by rw [hnot, BitVec.toNat_not]
  refine ⟨hnat, ?_⟩
  rw [BitVec.toInt_eq_toNat_cond, hnat, BitVec.toInt_eq_toNat_cond]
  split_ifs <;> omega

/-- Settles O48: ADC by `exec_adc8`; SBC adds the complement. -/
theorem subAddSubtract : Obligations.SubAddSubtract := by
  intro s m hT hD o a b c sx sy
  refine ⟨exec_adc8 (congrArg Host.Outcome.next (subArithOp_closed hT hD adc8)), ?sbc⟩
  obtain ⟨t, hexec, hsum, hcarry, hoverflow, hrest⟩ :=
    exec_adc8 (i := .s8Sbc m) (congrArg Host.Outcome.next (subArithOp_closed hT hD sbc8))
  obtain ⟨hnat, hint⟩ := complement_numbers o
  have hb : b < 256 := o.isLt
  rw [hnat] at hsum hcarry
  rw [hint] at hoverflow
  refine ⟨t, hexec, hsum.trans ?_, hcarry.trans (decide_eq_decide.2 ?_), hoverflow.trans (decide_eq_decide.2 ?_), hrest⟩
  · change (a + (255 - b) + c) % 256 = (a + 255 + c - b) % 256
    omega
  · change 256 ≤ a + (255 - b) + c ↔ b + 1 ≤ a + c
    omega
  · have hdiff : s.sub.a.toInt + (-1 - o.toInt) + (c : Int) = sy := by omega
    rw [hdiff]

/-! ## Compares and BIT -/

/-- The flags after a compare of the register `r` with the operand (R406). -/
theorem exec_cmp8 {r : Byte}
    (h : exec i s = .next ((subOperand m s).2.setP (cmp8 r (subOperand m s).1 (subOperand m s).2.sub.p))) :
    let o := (subOperand m s).1
    ∃ t, exec i s = .next t ∧ t = { (subOperand m s).2 with sub.p := t.sub.p } ∧
      t.pC = decide (o.toNat ≤ r.toNat) ∧ t.pZ = decide (r = o) ∧
      t.pN = decide (128 ≤ (r.toNat + 256 - o.toNat) % 256) ∧ keepsP [0, 1, 7] s t := by
  intro o
  rw [subOperand_p] at h
  have hp {k : Nat} (hk : k < 8) := getLsbD_nz8 (r - o) (withBit 0 (decide (o.toNat ≤ r.toNat)) s.sub.p) hk
  refine ⟨_, h, rfl, ?carry, ?zero, ?negative, ?kept⟩
  case carry => exact (hp (by decide)).trans (getLsbD_withBit _ _ (by decide))
  case zero =>
    refine (hp (by decide)).trans ?_
    change (r - o == 0#8) = _
    rw [beq_eq_decide, decide_eq_decide]
    exact sub_eq_zero
  case negative =>
    refine (hp (by decide)).trans ?_
    change (r - o).getLsbD 7 = _
    rw [getLsbD_seven, BitVec.toNat_sub, decide_eq_decide]
    have ho := o.isLt
    omega
  case kept => exact (KeptBits.refl.withBit _ (by decide)).nz8 (by decide) (by decide)

/-- The conjunction of two bytes is 0 exactly where they have no bit in common. -/
theorem and_eq_zero_iff (a b : Byte) :
    (a &&& b == 0#8) = true ↔ ∀ k, k < 8 → ¬(a.getLsbD k = true ∧ b.getLsbD k = true) := by
  have hbit : ∀ k, (a &&& b).getLsbD k = (0#8).getLsbD k ↔ ¬(a.getLsbD k = true ∧ b.getLsbD k = true) := fun k => by
    rw [BitVec.getLsbD_and, BitVec.getLsbD_zero, ← Bool.and_eq_true, Bool.not_eq_true]
  rw [beq_iff_eq]
  constructor
  · exact fun h k _ => (hbit k).1 (congrArg (·.getLsbD k) h)
  · exact fun h => BitVec.eq_of_getLsbD_eq fun k hk => (hbit k).2 (h k hk)

/-- Settles O49: the compares by `exec_cmp8`, BIT bit by bit. -/
theorem subCompareAndBit : Obligations.SubCompareAndBit := by
  intro s m o compares
  have hsub := subOperand_sub m s
  have hexec (i : Instr) (r : Byte)
      (h : exec i s = .next ((subOperand m s).2.setP (cmp8 r o (subOperand m s).2.sub.p))) : compares i r := exec_cmp8 h
  refine ⟨fun hT => hexec _ _ ?cmp, hexec _ _ ?cpx, hexec _ _ ?cpy, ?bit⟩
  case cmp =>
    have hT' : (subOperand m s).2.pT = false := (subOperand_pT_pD m s).1.trans hT
    change execS8Cmp m s = _
    rw [execS8Cmp, hT', if_neg Bool.false_ne_true, hsub]
  case cpx =>
    change execS8Cpx m s = _
    rw [execS8Cpx, hsub]
  case cpy =>
    change execS8Cpy m s = _
    rw [execS8Cpy, hsub]
  case bit =>
    have hbit : exec (.s8Bit m) s = .next ((subOperand m s).2.setP (bitTestP s.sub.a o s.sub.p)) := by
      change execS8Bit m s = _
      rw [execS8Bit, hsub]
    have hp {k : Nat} (hk : k < 8) : (bitTestP s.sub.a o s.sub.p).getLsbD k = if k = 6 then o.getLsbD 6 else
        if k = 7 then o.getLsbD 7 else if k = 1 then s.sub.a &&& o == 0#8 else s.sub.p.getLsbD k := by
      rw [bitTestP, getLsbD_withBit _ _ hk, getLsbD_withBit _ _ hk, getLsbD_withBit _ _ hk]
    refine ⟨_, hbit, rfl, hp (by decide), hp (by decide), ?_, ?_⟩
    · exact (Bool.eq_iff_iff.1 (hp (by decide))).trans (and_eq_zero_iff _ _)
    · exact ((KeptBits.refl.withBit _ (by decide)).withBit _ (by decide)).withBit _ (by decide)

end Sys2Proof.Machine
end

section
/-! Proofs. Read-modify-write instructions, logic and the shifts of the sub core (R435 to R448). -/

namespace Sys2Proof.Machine

variable {s : State} {m : SubMode} {i : Instr} {written : List Nat} {r : Nat}

/-! ## An operand replaced -/

theorem subPlace_eq_acc (h : (subPlace m s).1 = .acc) : m = .acc := by
  cases m with
  | acc => rfl
  | imm | zp | zpx | zpy | abs | absx | absy | indy => nomatch h

/-- The operand is read once, replaced at its place, and P changes (R405). -/
theorem subModify_eq (m : SubMode) (s : State) (f : Byte → Byte → Byte × Byte) : subModify m s f =
    (subStore (subPlace m s).1 (f (subOperand m s).1 s.sub.p).1 (subOperand m s).2).setP
      (f (subOperand m s).1 s.sub.p).2 := by
  rw [← subOperand_p m s]
  rfl

/-- P written over a written byte, and written back. -/
theorem setP_subWrite_back (e : Word) (v p : Byte) {u : State} (hp : u.sub.p = s.sub.p) :
    { (subWrite e v u).setP p with sub.p := s.sub.p } = subWrite e v u := by
  have hkept : (subWrite e v u).sub.p = s.sub.p := (subStore_p (.mem e) v u).trans hp
  rw [← hkept]
  rfl

/-- What INC and its like do, by the result and P that their operation gives on the operand. -/
theorem subModifies_of_exec {f : Byte → Byte → Byte × Byte} {q : Byte} (h : exec i s = .next (subModify m s f))
    (hf : f (subOperand m s).1 s.sub.p = (BitVec.ofNat 8 r, nz8 (BitVec.ofNat 8 r) q)) (hq : KeptBits written s.sub.p q)
    (hz : 1 ∈ written) (hn : 7 ∈ written) : subModifies i m r written s := by
  rw [subModify_eq, hf] at h
  refine ⟨_, nz8 (BitVec.ofNat 8 r) q, h, nzOf_of_p rfl, hq.nz8 hz hn, ?_⟩
  cases hplace : (subPlace m s).1 with
  | acc =>
    obtain rfl := subPlace_eq_acc hplace
    rfl
  | imm v => trivial
  | mem e =>
    refine ⟨rfl, ?_⟩
    change SubWritten e _ _ { (subWrite e (BitVec.ofNat 8 r) (subOperand m s).2).setP _ with sub.p := s.sub.p }
    rw [setP_subWrite_back e _ _ (subOperand_p m s)]
    exact subWritten_subWrite e _ _

theorem add_one_eq (v : Byte) : v + 1#8 = BitVec.ofNat 8 ((v.toNat + 1) % 256) :=
  BitVec.eq_of_toNat_eq (by rw [BitVec.toNat_add, BitVec.toNat_ofNat, BitVec.toNat_ofNat]; omega)

theorem sub_one_eq (v : Byte) : v - 1#8 = BitVec.ofNat 8 ((v.toNat + 255) % 256) :=
  BitVec.eq_of_toNat_eq (by rw [BitVec.toNat_sub, BitVec.toNat_ofNat, BitVec.toNat_ofNat]; omega)

theorem toNat_add_one (v : Byte) : (v + 1#8).toNat = (v.toNat + 1) % 256 := BitVec.toNat_add v 1#8

theorem toNat_sub_one (v : Byte) : (v - 1#8).toNat = (v.toNat + 255) % 256 := by
  rw [BitVec.toNat_sub, Nat.add_comm]
  rfl

/-! ## AND, ORA, EOR -/

/-- With T clear, an operation on A and the operand that acts on each pair of bits by `g` (R441 to R443). -/
theorem exec_bitwise {op : Byte → Byte → Byte} {g : Bool → Bool → Bool} (hT : s.pT = false)
    (h : exec i s = .next (subAccOp m s op))
    (hop : ∀ a v k, k < 8 → (op a v).getLsbD k = g (a.getLsbD k) (v.getLsbD k)) :
    ∃ t, exec i s = .next t ∧ t = { (subOperand m s).2 with sub.a := t.sub.a, sub.p := t.sub.p } ∧
      (∀ k, k < 8 → t.sub.a.getLsbD k = g (s.sub.a.getLsbD k) ((subOperand m s).1.getLsbD k)) ∧
      nzOf t.sub.a t ∧ keepsP [1, 7] s t := by
  rw [subAccOp_closed hT] at h
  exact ⟨_, h, rfl, fun k hk => hop _ _ k hk, nzOf_of_p rfl,
    keepsP_nz8 rfl (fun k _ _ => congrArg (·.getLsbD k) (subOperand_p m s)) (by decide) (by decide)⟩

/-- Settles O50: memory and A by `subModifies_of_exec`, the index registers by `exec_setNz8`, logic by `exec_bitwise`. -/
theorem subIncrementAndLogic : Obligations.SubIncrementAndLogic := by
  intro s m o
  refine ⟨fun _ => ⟨?inc, ?dec⟩, ?index, fun hT => ⟨?and, ?or, ?xor⟩⟩
  case inc =>
    exact subModifies_of_exec (f := fun v p => (v + 1#8, nz8 (v + 1#8) p)) rfl (by rw [add_one_eq]) .refl
      (by decide) (by decide)
  case dec =>
    exact subModifies_of_exec (f := fun v p => (v - 1#8, nz8 (v - 1#8) p)) rfl (by rw [sub_one_eq]) .refl
      (by decide) (by decide)
  case index =>
    intro steps
    have hsteps {i : Instr} {v r : Byte} {set : Byte → State} {d : Nat} (hr : r.toNat = (v.toNat + d) % 256)
        (h : exec i s = .next ((set r).setNz8 r)) (hp : (set r).sub.p = s.sub.p) : steps i v set d :=
      let ⟨t, p, hexec, ht, hnz, hkept⟩ := exec_setNz8 h hp
      ⟨t, r, p, hexec, hr, ht, hnz, hkept⟩
    exact ⟨hsteps (toNat_add_one _) rfl rfl, hsteps (toNat_add_one _) rfl rfl, hsteps (toNat_sub_one _) rfl rfl,
      hsteps (toNat_sub_one _) rfl rfl⟩
  case and => exact exec_bitwise hT rfl fun _ _ _ _ => BitVec.getLsbD_and
  case or => exact exec_bitwise hT rfl fun _ _ _ _ => BitVec.getLsbD_or
  case xor => exact exec_bitwise hT rfl fun _ _ _ _ => BitVec.getLsbD_xor

/-! ## The shifts -/

theorem toNat_bit8 (c : Bool) : (bit 8 c).toNat = c.toNat := by cases c <;> rfl

/-- A byte moved left, a bit entering at the bottom (R445, R447). -/
theorem toNat_byteLeft (v : Byte) (c : Bool) :
    (v <<< 1).toNat = 2 * v.toNat % 256 ∧ ((v <<< 1) ||| bit 8 c).toNat = 2 * v.toNat % 256 + c.toNat := by
  have hc : c.toNat < 2 ^ 1 := c.toNat_lt
  have hshift : (v <<< 1).toNat = 2 * v.toNat % 256 := by
    rw [BitVec.toNat_shiftLeft, Nat.shiftLeft_eq]
    omega
  have heven : 2 * v.toNat % 256 = 2 ^ 1 * (v.toNat % 128) := by omega
  refine ⟨hshift, ?_⟩
  rw [BitVec.toNat_or, hshift, toNat_bit8, heven, Nat.two_pow_add_eq_or_of_lt hc]

/-- A byte moved right, a bit entering at the top (R446, R448). -/
theorem toNat_byteRight (v : Byte) (c : Bool) :
    (v >>> 1).toNat = v.toNat / 2 ∧ ((v >>> 1) ||| (bit 8 c <<< 7)).toNat = v.toNat / 2 + 128 * c.toNat := by
  have hshift : (v >>> 1).toNat = v.toNat / 2 := by
    rw [BitVec.toNat_ushiftRight, Nat.shiftRight_eq_div_pow, Nat.pow_one]
  have htop : (bit 8 c <<< 7).toNat = 2 ^ 7 * c.toNat := by cases c <;> rfl
  have hlow : v.toNat / 2 < 2 ^ 7 := by
    have hv := v.isLt
    omega
  refine ⟨hshift, ?_⟩
  rw [BitVec.toNat_or, hshift, htop, Nat.or_comm, ← Nat.two_pow_add_eq_or_of_lt hlow, Nat.add_comm]

theorem ofNat_toNat_byte (b : Byte) : BitVec.ofNat 8 b.toNat = b := by rw [BitVec.ofNat_toNat, BitVec.setWidth_eq]

/-- The result of a shift by its number, and the bit that leaves. -/
theorem subModifies_shift {f : Byte → Byte → Byte × Byte} {c : Bool} {x : Byte} (h : exec i s = .next (subModify m s f))
    (hf : f (subOperand m s).1 s.sub.p = shiftResult c x s.sub.p) (hx : x.toNat = r) :
    subModifies i m r [0, 1, 7] s ∧ ∀ t, exec i s = .next t → t.pC = c := by
  have hr : x = BitVec.ofNat 8 r := by rw [← hx, ofNat_toNat_byte]
  refine ⟨subModifies_of_exec h (hf.trans (by rw [← hr]; rfl)) (KeptBits.refl.withBit c (by decide)) (by decide)
    (by decide), fun t ht => ?_⟩
  obtain rfl := Host.Outcome.next.inj (h.symm.trans ht)
  rw [subModify_eq, State.pC, setP_sub_p, hf, shiftResult, getLsbD_nz8 _ _ (by decide), getLsbD_withBit _ _ (by decide)]
  rfl

/-- Settles O51: by `subModifies_shift`, with the value moved and the bit that leaves as arithmetic. -/
theorem subShifts : Obligations.SubShifts := by
  intro s m _ v c
  obtain ⟨hleft, hleftC⟩ := toNat_byteLeft (subOperand m s).1 s.pC
  obtain ⟨hright, hrightC⟩ := toNat_byteRight (subOperand m s).1 s.pC
  obtain ⟨hasl, haslC⟩ := subModifies_shift (i := .s8Asl m) rfl rfl hleft
  obtain ⟨hlsr, hlsrC⟩ := subModifies_shift (i := .s8Lsr m) rfl rfl hright
  obtain ⟨hrol, hrolC⟩ := subModifies_shift (i := .s8Rol m) rfl rfl hleftC
  obtain ⟨hror, hrorC⟩ := subModifies_shift (i := .s8Ror m) rfl rfl hrightC
  refine ⟨hasl, hlsr, hrol, hror, fun t ht => ?_, fun t ht => ?_⟩
  · exact (ht.elim (haslC t) (hrolC t)).trans (getLsbD_seven _)
  · exact (ht.elim (hlsrC t) (hrorC t)).trans (Nat.testBit_zero _)

end Sys2Proof.Machine
end

section
/-! Proofs. Branches, jumps, the bit families and the flag instructions of the sub core (R450 to R460, R465 to R477). -/

namespace Sys2Proof.Machine

variable {s u : State} {i : Instr} {b : Bool} {r : Byte}

/-! ## Branches -/

theorem toNat_subBranchIf (b : Bool) (r : Byte) (s : State) : ((subBranchIf b r s).sub.spc.toNat : Int) =
    if b = true then ((s.sub.spc.toNat : Int) + r.toInt) % 0x10000 else s.sub.spc.toNat := by
  rw [subBranchIf, setSpc_sub_spc]
  split_ifs
  · exact toNat_add_sext16 s.sub.spc r
  · rfl

theorem subBranches_of_exec {c : Bool} (h : exec i s = .next (subBranchIf b r s)) (hb : b = c) : subBranches i c r s :=
  hb ▸ ⟨_, h, rfl, toNat_subBranchIf b r s⟩

theorem toNat_ofBytes_eq (h l : Byte) : (Word.ofBytes h l).toNat = 256 * h.toNat + l.toNat := by
  rw [Word.toNat_ofBytes, Nat.mul_comm]

theorem ofNat_toNat_add_one (a : Word) : BitVec.ofNat 16 (a.toNat + 1) = a + 1#16 := by
  rw [BitVec.ofNat_add, BitVec.ofNat_toNat, BitVec.setWidth_eq]

/-- Settles O52: the branches by `subBranches_of_exec`, the pointer of JMP by its two reads. -/
theorem subBranchesAndJumps : Obligations.SubBranchesAndJumps := by
  intro s r a
  have hset (b : Bool) : b = decide (b = true) := Bool.decide_eq_true.symm
  have hclear (b : Bool) : (!b) = decide (b = false) := Bool.decide_eq_false.symm
  refine ⟨subBranches_of_exec rfl (hclear _), subBranches_of_exec rfl (hset _), subBranches_of_exec rfl (hclear _),
    subBranches_of_exec rfl (hset _), subBranches_of_exec rfl (hclear _), subBranches_of_exec rfl (hset _),
    subBranches_of_exec rfl (hclear _), subBranches_of_exec rfl (hset _), subBranches_of_exec rfl rfl, rfl, ?indirect⟩
  case indirect =>
    rw [ofNat_toNat_add_one]
    exact ⟨_, rfl, rfl, subReadWord_frame a (a + 1#16) s, (toNat_ofBytes_eq _ _).trans (Nat.add_comm _ _)⟩

/-! ## The bit families -/

/-- A bit set (R467). -/
theorem getLsbD_setBit {n k : Nat} (v : Byte) (hk : k < 8) :
    (v ||| (1#8 <<< n)).getLsbD k = (v.getLsbD k || decide (k = n)) := by
  refine (getLsbD_withBit true v hk).trans ?_
  by_cases h : k = n <;> simp [h]

/-- A bit cleared (R468). -/
theorem getLsbD_clearBit {n k : Nat} (v : Byte) (hk : k < 8) :
    (v &&& ~~~(1#8 <<< n)).getLsbD k = (v.getLsbD k && decide (k ≠ n)) := by
  refine (getLsbD_withBit false v hk).trans ?_
  by_cases h : k = n <;> simp [h]

/-- A branch after a read of memory (R465, R466). -/
theorem exec_branchAfterRead {e : Word} (h : exec i s = .next (subBranchIf b r (subRead e s).2)) :
    ∃ t, exec i s = .next t ∧ t = { (subRead e s).2 with sub.spc := t.sub.spc } ∧
      (t.sub.spc.toNat : Int) =
        if b = true then ((s.sub.spc.toNat : Int) + r.toInt) % 0x10000 else s.sub.spc.toNat := by
  refine ⟨_, h, rfl, ?_⟩
  rw [toNat_subBranchIf, subRead_sub]

/-- An instruction that writes one flag of P (R471 to R477). -/
theorem exec_setFlag {n : Nat} (hn : n < 8) (h : exec i s = .next (s.setP (withBit n b s.sub.p))) :
    ∃ t, exec i s = .next t ∧ t = { s with sub.p := t.sub.p } ∧ t.sub.p.getLsbD n = b ∧ keepsP [n] s t :=
  ⟨_, h, rfl, (getLsbD_withBit b _ hn).trans (if_pos rfl), KeptBits.refl.withBit b (List.mem_singleton_self n)⟩

/-- Settles O54: branches by `subBranches_of_exec` and `exec_branchAfterRead`, bits by `getLsbD_setBit` and
`getLsbD_clearBit`, flags by `exec_setFlag`. -/
theorem subBitsAndFlags : Obligations.SubBitsAndFlags := by
  refine fun s => ⟨fun i r z => ⟨⟨subBranches_of_exec rfl rfl, subBranches_of_exec rfl rfl⟩, ?memory, ?set, ?clear⟩, rfl,
    exec_setFlag (by decide) rfl, exec_setFlag (by decide) rfl, exec_setFlag (by decide) rfl,
    exec_setFlag (by decide) rfl, exec_setFlag (by decide) rfl, exec_setFlag (by decide) rfl,
    exec_setFlag (by decide) rfl⟩
  case memory =>
    rw [← zeroPage_eq]
    refine ⟨subRead_frame _ s, exec_branchAfterRead rfl, ?bbc,
      ⟨_, _, rfl, fun k hk => getLsbD_setBit _ hk, subWritten_subWrite _ _ _⟩,
      ⟨_, _, rfl, fun k hk => getLsbD_clearBit _ hk, subWritten_subWrite _ _ _⟩⟩
    obtain ⟨t, hexec, ht, hspc⟩ := exec_branchAfterRead (i := .s8Bbc i (.zp z) r) (s := s)
      (b := !(subRead (zeroPage z) s).1.getLsbD i.toNat) rfl
    refine ⟨t, hexec, ht, hspc.trans ?_⟩
    cases (subRead (zeroPage z) s).1.getLsbD i.toNat <;> rfl
  case set => exact ⟨_, rfl, rfl, fun k hk => getLsbD_setBit _ hk⟩
  case clear => exact ⟨_, rfl, rfl, fun k hk => getLsbD_clearBit _ hk⟩

end Sys2Proof.Machine
end

section
/-! Proofs. The stack of the sub core (R404): pushes and pulls wherever S points, and the stores (R413 to R416, R423 to
R426). -/

namespace Sys2Proof.Machine

variable {s t : State} {v : Byte}

/-! ## Registers written back -/

theorem setS_back {u : State} {x : Byte} (h : u.sub.s = x) (y : Byte) : { u.setS y with sub.s := x } = u := h ▸ rfl

theorem setSpc_back {u : State} {x : Word} (h : u.sub.spc = x) (y : Word) : { u.setSpc y with sub.spc := x } = u :=
  h ▸ rfl

/-- SPC and P written and written back. -/
theorem setP_setSpc_back {u : State} {x : Word} {p : Byte} (hspc : u.sub.spc = x) (hp : u.sub.p = p) (y : Word)
    (q : Byte) : { (u.setP q).setSpc y with sub.spc := x, sub.p := p } = u := hspc ▸ hp ▸ rfl

/-! ## One byte -/

/-- A push changes S and the array the byte goes to (R404). -/
theorem subPush_sub (v : Byte) (s : State) :
    (subPush v s).sub = { s.sub with ram := (subPush v s).sub.ram, s := s.sub.s - 1#8 } := by
  rw [subPush]
  dsimp only [State.setS]
  rw [subWrite_sub]

theorem subPush_s (v : Byte) (s : State) : (subPush v s).sub.s = s.sub.s - 1#8 := by rw [subPush_sub]

theorem subPush_side (v : Byte) (s : State) : SubSide s (subPush v s) := subWrite_side _ v s

theorem subPushed_subPush (v : Byte) (s : State) : SubPushed v s (subPush v s) := by
  have hs : (subWrite (zeroPage s.sub.s) v s).sub.s = s.sub.s := by rw [subWrite_sub]
  refine ⟨?_, ?_⟩
  · rw [subPush_s, toNat_sub_one]
  · change SubWritten _ v s { (subWrite (zeroPage s.sub.s) v s).setS _ with sub.s := s.sub.s }
    rw [← zeroPage_eq, setS_back hs]
    exact subWritten_subWrite _ v s

/-- A pull reads at S plus one, modulo 256 (R404). -/
theorem subPull_eq (s : State) :
    subPull s = subRead (BitVec.ofNat 16 ((s.sub.s.toNat + 1) % 256)) (s.setS (s.sub.s + 1#8)) := by
  rw [← zeroPage_add_one]
  rfl

/-- A read does not see S, and leaves it. -/
theorem subRead_setS (e : Word) (x : Byte) (s : State) :
    subRead e (s.setS x) = ((subRead e s).1, (subRead e s).2.setS x) := by
  obtain ⟨l, hread, -⟩ := subRead_shape s e
  refine (subRead_withSubRegs s e s.sub.a s.sub.x s.sub.y x s.sub.p s.sub.spc).trans ?_
  rw [hread]
  rfl

/-- A read does not see P, and leaves it. -/
theorem subRead_setP (e : Word) (x : Byte) (s : State) :
    subRead e (s.setP x) = ((subRead e s).1, (subRead e s).2.setP x) := by
  obtain ⟨l, hread, -⟩ := subRead_shape s e
  refine (subRead_withSubRegs s e s.sub.a s.sub.x s.sub.y s.sub.s x s.sub.spc).trans ?_
  rw [hread]
  rfl

theorem subPull_sub (s : State) : (subPull s).2.sub = { s.sub with s := s.sub.s + 1#8 } := by
  rw [subPull_eq, subRead_sub]
  rfl

theorem subPull_s (s : State) : (subPull s).2.sub.s = s.sub.s + 1#8 := by rw [subPull_sub]

theorem subPull_side (s : State) : SubSide s (subPull s).2 := by
  rw [subPull_eq]
  exact (subRead_frame _ (s.setS _)).1

theorem subPulled_subPull (s : State) : SubPulled (subPull s).1 s (subPull s).2 := by
  refine ⟨?_, ?_, ?_, subRead_frame _ s⟩
  · rw [subPull_eq, subRead_setS]
  · rw [subPull_s, toNat_add_one]
  · rw [subPull_eq, subRead_setS]
    exact setS_back (congrArg SubCore.s (subRead_sub s _)) _

/-! ## PHP and PLP -/

/-- The B bit set in a pushed copy of P (R425, R464). -/
theorem getLsbD_orB (p : Byte) {k : Nat} (hk : k < 8) : (p ||| 0x10#8).getLsbD k = (p.getLsbD k || decide (k = 4)) :=
  getLsbD_setBit (n := 4) p hk

/-- The B bit dropped from a pulled copy of P (R426, R463). -/
theorem getLsbD_dropB (p : Byte) {k : Nat} (hk : k < 8) : (p &&& 0xEF#8).getLsbD k = (p.getLsbD k && decide (k ≠ 4)) :=
  getLsbD_clearBit (n := 4) p hk

theorem toNat_orB (p : Byte) : (p ||| 0x10#8).toNat = p.toNat % 16 + 16 + p.toNat / 32 * 32 := by
  have hor : (p ||| 0x10#8).toNat = p.toNat ||| 16 := BitVec.toNat_or p _
  have hhigh : (p.toNat ||| 16) / 2 ^ 5 = p.toNat / 2 ^ 5 := by rw [Nat.or_div_two_pow]; exact Nat.or_zero _
  have hlow : (p.toNat ||| 16) % 2 ^ 4 = p.toNat % 2 ^ 4 := by rw [Nat.or_mod_two_pow]; exact Nat.or_zero _
  have hbit : (p.toNat ||| 16) / 2 ^ 4 % 2 = 1 := by
    rw [Nat.or_div_two_pow, Nat.or_mod_two_eq_one]
    exact .inr rfl
  rw [hor]
  omega

/-- Settles O47: stores by `subWritten_subWrite`, pushes by `subPushed_subPush`, pulls by `subPull_eq`. -/
theorem subStoresAndStack : Obligations.SubStoresAndStack := by
  refine fun s => ⟨fun m e hplace => ?stores, fun n z => ?ldm, fun i v hi => ?pushes, ?pulls⟩
  case stores =>
    have hstore (v : Byte) : SubWritten e v (subPlace m s).2 (subStore (subPlace m s).1 v (subPlace m s).2) := by
      rw [hplace]
      exact subWritten_subWrite e v _
    rw [← subPlace_sub m s]
    exact ⟨⟨_, rfl, hstore _⟩, ⟨_, rfl, hstore _⟩, ⟨_, rfl, hstore _⟩⟩
  case ldm =>
    rw [← zeroPage_eq]
    exact ⟨_, rfl, subWritten_subWrite _ n s⟩
  case pushes =>
    obtain ⟨rfl, rfl⟩ | ⟨rfl, hv⟩ := hi
    · exact ⟨_, rfl, subPushed_subPush _ s⟩
    · obtain rfl : v = s.sub.p ||| 0x10#8 := BitVec.eq_of_toNat_eq (hv.trans (toNat_orB _).symm)
      exact ⟨_, rfl, subPushed_subPush _ s⟩
  case pulls =>
    intro r
    have hr : subPull s = r := subPull_eq s
    clear_value r
    subst hr
    have hp : ((subPull s).2.setA (subPull s).1).sub.p = s.sub.p := by rw [setA_sub_p, subPull_sub]
    exact ⟨exec_setNz8 rfl hp, _, _, rfl, rfl, fun k hk => getLsbD_dropB _ hk⟩

end Sys2Proof.Machine
end

section
/-! Proofs. Calls, returns and interrupts of the sub core (R461 to R464, R592, R593), and that the returns undo the calls
and entries where the stack is in the private RAM. -/

namespace Sys2Proof.Machine

variable {s t : State} {n : Nat}

/-- Writing P and SPC does not leave the sub core's side. -/
theorem SubSide.setP_setSpc (h : SubSide s t) (p : Byte) (v : Word) : SubSide s ((t.setP p).setSpc v) := h

/-! ## A word on the stack -/

theorem subPushWord_s (w : Word) (s : State) : (subPushWord w s).sub.s.toNat = (s.sub.s.toNat + 254) % 256 := by
  rw [subPushWord, subPush_s, toNat_sub_one, subPush_s, toNat_sub_one]
  omega

/-- A pushed word changes S and the array its bytes go to. -/
theorem subPushWord_sub (w : Word) (s : State) : (subPushWord w s).sub =
    { s.sub with ram := (subPushWord w s).sub.ram, s := (subPushWord w s).sub.s } := by
  rw [subPushWord, subPush_sub, subPush_sub]

theorem subPushWord_side (w : Word) (s : State) : SubSide s (subPushWord w s) :=
  (subPush_side _ s).trans (subPush_side _ _)

theorem subPullWord_s (s : State) : (subPullWord s).2.sub.s.toNat = (s.sub.s.toNat + 2) % 256 := by
  change (subPull (subPull s).2).2.sub.s.toNat = _
  rw [subPull_s, toNat_add_one, subPull_s, toNat_add_one]
  omega

theorem subPullWord_sub (s : State) : (subPullWord s).2.sub = { s.sub with s := (subPullWord s).2.sub.s } := by
  change (subPull (subPull s).2).2.sub = { s.sub with s := (subPull (subPull s).2).2.sub.s }
  rw [subPull_sub, subPull_sub]

theorem subPullWord_side (s : State) : SubSide s (subPullWord s).2 := (subPull_side s).trans (subPull_side _)

/-- The halves of a word, as a number taken apart. -/
theorem toNat_hi_lo {w : Word} {x : Nat} (h : w.toNat = x % 0x10000) : 256 * w.hi.toNat + w.lo.toNat = x % 0x10000 := by
  rw [Word.toNat_hi, Word.toNat_lo]
  omega

/-! ## The stack in the private RAM -/

/-- A push to the private RAM. -/
theorem subPush_ram (v : Byte) (hs : s.sub.s.toNat = n) (hn : n < 0x80) :
    (subPush v s).sub.ram = s.sub.ram.write n v ∧ (subPush v s).link = s.link ∧ (subPush v s).model = s.model := by
  subst hs
  change (subWrite (zeroPage s.sub.s) v s).sub.ram = _ ∧ (subWrite (zeroPage s.sub.s) v s).link = _ ∧
    (subWrite (zeroPage s.sub.s) v s).model = _
  rw [subWrite_ram (subTarget_zeroPage hn)]
  exact ⟨rfl, rfl, rfl⟩

/-- A pull from the private RAM. -/
theorem subPull_ram (hs : s.sub.s.toNat + 1 = n) (hn : n < 0x80) :
    subPull s = (s.sub.ram.read n, s.setS (BitVec.ofNat 8 n)) := by
  have hnext : (s.sub.s + 1#8).toNat = n := by rw [toNat_add_one]; omega
  have hs' : s.sub.s + 1#8 = BitVec.ofNat 8 n := by rw [← hnext, ofNat_toNat_byte]
  change subRead (zeroPage (s.sub.s + 1#8)) (s.setS (s.sub.s + 1#8)) = _
  rw [subRead_ram (subTarget_zeroPage (hnext.trans_lt hn)), hnext, hs']
  rfl

theorem subPushWord_ram (w : Word) (hs : s.sub.s.toNat = n) (hpos : 1 ≤ n) (hn : n < 0x80) :
    (subPushWord w s).sub.ram = (s.sub.ram.write n w.hi).write (n - 1) w.lo ∧ (subPushWord w s).link = s.link ∧
      (subPushWord w s).model = s.model := by
  have hs' : (subPush w.hi s).sub.s.toNat = n - 1 := by rw [subPush_s, toNat_sub_one]; omega
  obtain ⟨hram, hlink, hmodel⟩ := subPush_ram w.hi hs hn
  obtain ⟨hram', hlink', hmodel'⟩ := subPush_ram w.lo hs' (by omega)
  exact ⟨hram'.trans (by rw [hram]), hlink'.trans hlink, hmodel'.trans hmodel⟩

theorem subPullWord_ram (hs : s.sub.s.toNat + 2 = n) (hn : n < 0x80) : subPullWord s =
    (Word.ofBytes (s.sub.ram.read n) (s.sub.ram.read (n - 1)), s.setS (BitVec.ofNat 8 n)) := by
  have hfirst : subPull s = (s.sub.ram.read (n - 1), s.setS (BitVec.ofNat 8 (n - 1))) :=
    subPull_ram (by omega) (by omega)
  have hs' : (s.setS (BitVec.ofNat 8 (n - 1))).sub.s.toNat + 1 = n := by
    rw [setS_sub_s, BitVec.toNat_ofNat]
    omega
  rw [subPullWord, hfirst, subPull_ram hs' hn]
  rfl

/-- The bytes of a word pushed below `n`: they are there, and no other byte changes. -/
theorem pushedWord_reads {ram : Memory} (hram : ram.wf 0x80 = true) (hpos : 1 ≤ n) (hn : n < 0x80) (h l : Byte) :
    let r := (ram.write n h).write (n - 1) l
    r.read n = h ∧ r.read (n - 1) = l ∧ (∀ j, j ≠ n → j ≠ n - 1 → r.read j = ram.read j) ∧ r.wf 0x80 = true := by
  intro r
  have hfirst : (ram.write n h).wf 0x80 = true := Memory.wf_write _ _ _ _ hram hn
  refine ⟨?_, Memory.read_write_same _ _ _ _ _ hfirst, fun j hj hj' => ?_, Memory.wf_write _ _ _ _ hfirst (by omega)⟩
  · exact (Memory.read_write_other _ _ _ _ (by omega)).trans (Memory.read_write_same _ _ _ _ _ hram)
  · exact (Memory.read_write_other _ _ _ _ hj').trans (Memory.read_write_other _ _ _ _ hj)

/-- A word found where it was pushed. -/
theorem subPullWord_of_reads {w : Word} (hs : s.sub.s.toNat + 2 = n) (hn : n < 0x80)
    (hhi : s.sub.ram.read n = w.hi) (hlo : s.sub.ram.read (n - 1) = w.lo) :
    subPullWord s = (w, s.setS (BitVec.ofNat 8 n)) := by
  rw [subPullWord_ram hs hn, hhi, hlo, Word.ofBytes_hi_lo]

/-! ## JSR and RTS -/

theorem toNat_sub_one_word (w : Word) : (w - 1#16).toNat = (w.toNat + 0xFFFF) % 0x10000 := by
  rw [BitVec.toNat_sub, Nat.add_comm]
  rfl

theorem exec_jsr (a : Word) (s : State) : exec (.s8Jsr a) s = .next ((subPushWord (s.sub.spc - 1#16) s).setSpc a) := rfl

/-- RTS goes on behind the address it pulls (R462). -/
theorem exec_rts (s : State) :
    exec .s8Rts s = .next ((subPullWord s).2.setSpc ((subPullWord s).1 + 1#16)) := rfl

/-- A call with the stack in the private RAM: what is stored, and that RTS comes back. -/
theorem exec_jsr_ram (a : Word) (hpos : 2 ≤ s.sub.s.toNat) (hn : s.sub.s.toNat < 0x80) (ha : s.arraysOk = true) :
    let t := (subPushWord (s.sub.spc - 1#16) s).setSpc a
    t.link = s.link ∧ t.model = s.model ∧
      256 * (t.sub.ram.read s.sub.s.toNat).toNat + (t.sub.ram.read (s.sub.s.toNat - 1)).toNat =
        (s.sub.spc.toNat + 0xFFFF) % 0x10000 ∧
      (∀ j, j ≠ s.sub.s.toNat → j ≠ s.sub.s.toNat - 1 → t.sub.ram.read j = s.sub.ram.read j) ∧
      exec .s8Rts t = .next { t with sub.spc := s.sub.spc, sub.s := s.sub.s } := by
  intro t
  have hpush := subPushWord_ram (s.sub.spc - 1#16) rfl (by omega) hn
  obtain ⟨htram, hlink, hmodel⟩ : t.sub.ram = _ ∧ t.link = s.link ∧ t.model = s.model := hpush
  obtain ⟨hram, -⟩ := arraysOk_subRam ha
  obtain ⟨hhi, hlo, hother, -⟩ :=
    pushedWord_reads hram (n := s.sub.s.toNat) (by omega) hn (s.sub.spc - 1#16).hi (s.sub.spc - 1#16).lo
  have hts : t.sub.s.toNat + 2 = s.sub.s.toNat := by
    have h := subPushWord_s (s.sub.spc - 1#16) s
    change (subPushWord (s.sub.spc - 1#16) s).sub.s.toNat + 2 = _
    omega
  rw [← htram] at hhi hlo hother
  refine ⟨hlink, hmodel, ?_, hother, ?_⟩
  · rw [hhi, hlo]
    exact toNat_hi_lo (toNat_sub_one_word _)
  · rw [exec_rts, subPullWord_of_reads hts hn hhi hlo, BitVec.sub_add_cancel, ofNat_toNat_byte]
    rfl

/-- A return with the stack in the private RAM (R462). -/
theorem exec_rts_ram (hn : s.sub.s.toNat < 0x7E) :
    let t := (subPullWord s).2.setSpc ((subPullWord s).1 + 1#16)
    t.sub.spc.toNat = (256 * (s.sub.ram.read (s.sub.s.toNat + 2)).toNat +
        (s.sub.ram.read (s.sub.s.toNat + 1)).toNat + 1) % 0x10000 ∧
      t = { s with sub.s := t.sub.s, sub.spc := t.sub.spc } := by
  have hpull := subPullWord_ram (s := s) rfl (by omega)
  intro t
  have ht : t = (s.setS (BitVec.ofNat 8 (s.sub.s.toNat + 2))).setSpc (Word.ofBytes (s.sub.ram.read (s.sub.s.toNat + 2))
      (s.sub.ram.read (s.sub.s.toNat + 1)) + 1#16) := congrArg (fun w => w.2.setSpc (w.1 + 1#16)) hpull
  rw [ht]
  refine ⟨?_, rfl⟩
  rw [setSpc_sub_spc, BitVec.toNat_add, toNat_ofBytes_eq]
  rfl

/-! ## RTI -/

/-- A pull does not see P, and leaves it. -/
theorem subPull_setP (x : Byte) (s : State) : subPull (s.setP x) = ((subPull s).1, (subPull s).2.setP x) := by
  rw [subPull_eq, subPull_eq]
  exact subRead_setP _ x (s.setS (s.sub.s + 1#8))

theorem subPullWord_setP (x : Byte) (s : State) :
    subPullWord (s.setP x) = ((subPullWord s).1, (subPullWord s).2.setP x) := by
  rw [subPullWord, subPull_setP, subPull_setP]
  rfl

/-- RTI pulls P, then SPC, and drops B (R463). -/
theorem exec_rti (s : State) : exec .s8Rti s = .next
    (((subPullWord (subPull s).2).2.setP ((subPull s).1 &&& 0xEF#8)).setSpc (subPullWord (subPull s).2).1) := by
  change execS8Rti s = _
  rw [execS8Rti, subPullWord_setP]

/-- A return from an interrupt with the stack in the private RAM (R463). -/
theorem exec_rti_ram (hs : s.sub.s.toNat + 3 = n) (hn : n < 0x80) : exec .s8Rti s = .next
    (((s.setS (BitVec.ofNat 8 n)).setP (s.sub.ram.read (n - 2) &&& 0xEF#8)).setSpc
      (Word.ofBytes (s.sub.ram.read n) (s.sub.ram.read (n - 1)))) := by
  have hfirst : subPull s = (s.sub.ram.read (n - 2), s.setS (BitVec.ofNat 8 (n - 2))) :=
    subPull_ram (by omega) (by omega)
  have hs' : (s.setS (BitVec.ofNat 8 (n - 2))).sub.s.toNat + 2 = n := by
    rw [setS_sub_s, BitVec.toNat_ofNat]
    omega
  rw [exec_rti, hfirst, subPullWord_ram hs' hn]
  rfl

/-- RTI where P lies under a word on the stack. -/
theorem exec_rti_of_reads {ret : Word} {p : Byte} (hs : s.sub.s.toNat + 3 = n) (hn : n < 0x80)
    (hhi : s.sub.ram.read n = ret.hi) (hlo : s.sub.ram.read (n - 1) = ret.lo) (hp : s.sub.ram.read (n - 2) = p) :
    exec .s8Rti s = .next { s with sub.spc := ret, sub.s := BitVec.ofNat 8 n, sub.p := p &&& 0xEF#8 } := by
  rw [exec_rti_ram hs hn, hhi, hlo, hp, Word.ofBytes_hi_lo]
  rfl

/-! ## Entries: BRK and interrupts -/

/-- What BRK and an interrupt do (R464, R593): `ret` and `p` are pushed, I is set, SPC becomes `vec`. -/
def State.entered (p : Byte) (ret vec : Word) (s : State) : State :=
  ((subPush p (subPushWord ret s)).setP (withBit 2 true s.sub.p)).setSpc vec

section entered
variable (p : Byte) (ret vec : Word) (s : State)

theorem subPush_subPushWord_sub : (subPush p (subPushWord ret s)).sub =
    { s.sub with ram := (subPush p (subPushWord ret s)).sub.ram, s := (subPush p (subPushWord ret s)).sub.s } := by
  rw [subPush_sub, subPushWord_sub]

theorem entered_pushed : ∃ u1 u2, SubPushed ret.hi s u1 ∧ SubPushed ret.lo u1 u2 ∧
    SubPushed p u2 { s.entered p ret vec with sub.spc := s.sub.spc, sub.p := s.sub.p } := by
  have hsub := subPush_subPushWord_sub p ret s
  refine ⟨subPush ret.hi s, subPushWord ret s, subPushed_subPush _ s, subPushed_subPush _ _, ?_⟩
  rw [State.entered, setP_setSpc_back (by rw [hsub]) (by rw [hsub])]
  exact subPushed_subPush p _

theorem entered_s : (s.entered p ret vec).sub.s.toNat = (s.sub.s.toNat + 253) % 256 := by
  have hword := subPushWord_s ret s
  change (subPush p (subPushWord ret s)).sub.s.toNat = _
  rw [subPush_s, toNat_sub_one]
  omega

theorem entered_side : SubSide s (s.entered p ret vec) :=
  ((subPushWord_side ret s).trans (subPush_side p _)).setP_setSpc _ _

theorem entered_p : (s.entered p ret vec).sub.p = withBit 2 true s.sub.p := rfl

theorem entered_ram : (s.entered p ret vec).sub.ram = (subPush p (subPushWord ret s)).sub.ram := by
  rw [State.entered, setSpc_sub_ram, setP_sub_ram]

theorem entered_link : (s.entered p ret vec).link = (subPush p (subPushWord ret s)).link := by
  rw [State.entered, setSpc_link, setP_link]

theorem entered_pI : (s.entered p ret vec).pI = true := by
  rw [State.pI, entered_p, getLsbD_withBit true _ (by decide), if_pos rfl]

theorem entered_keepsP : keepsP [2] s (s.entered p ret vec) := by
  rw [keepsP_iff, entered_p]
  exact KeptBits.refl.withBit true (by decide)

/-- The vector is read from ROM after the pushes. -/
theorem vector_after_pushes {a : Word} {i i' : Nat} (h : subTarget a = .rom i) (h' : subTarget (a + 1#16) = .rom i') :
    let t := subPush p (subPushWord ret s)
    let w := subReadWord a (a + 1#16) (t.setP (withBit 2 true t.sub.p))
    w.2.setSpc w.1 = s.entered p ret (Word.ofBytes (s.sub.rom.read i') (s.sub.rom.read i)) := by
  have hsub := subPush_subPushWord_sub p ret s
  intro t w
  have hp : t.sub.p = s.sub.p := (congrArg SubCore.p hsub :)
  have hrom : t.sub.rom = s.sub.rom := (congrArg SubCore.rom hsub :)
  have hw : w = (Word.ofBytes (s.sub.rom.read i') (s.sub.rom.read i), t.setP (withBit 2 true s.sub.p)) := by
    change subReadWord a (a + 1#16) (t.setP (withBit 2 true t.sub.p)) = _
    rw [subReadWord, subRead_rom h, subRead_rom h', setP_sub_rom, hp, hrom]
  rw [hw]
  rfl

variable {s}

/-- An entry with the stack in the private RAM: the link stays, and RTI comes back where P lost at most B. -/
theorem exec_rti_entered (hpos : 3 ≤ s.sub.s.toNat) (hn : s.sub.s.toNat < 0x80) (ha : s.arraysOk = true)
    (hp : p &&& 0xEF#8 = s.sub.p) :
    let t := s.entered p ret vec
    t.link = s.link ∧ exec .s8Rti t = .next { t with sub.spc := ret, sub.s := s.sub.s, sub.p := s.sub.p } := by
  intro t
  obtain ⟨hwordRam, hwordLink, -⟩ := subPushWord_ram ret (s := s) rfl (by omega) hn
  have hs : (subPushWord ret s).sub.s.toNat = s.sub.s.toNat - 2 := by
    have h := subPushWord_s ret s
    omega
  obtain ⟨hbyteRam, hbyteLink, -⟩ := subPush_ram p hs (by omega)
  obtain ⟨hram, -⟩ := arraysOk_subRam ha
  obtain ⟨hhi, hlo, -, hwf⟩ := pushedWord_reads hram (n := s.sub.s.toNat) (by omega) hn ret.hi ret.lo
  have htram : t.sub.ram = ((s.sub.ram.write s.sub.s.toNat ret.hi).write (s.sub.s.toNat - 1) ret.lo).write
      (s.sub.s.toNat - 2) p := by
    rw [entered_ram, hbyteRam, hwordRam]
  have hlink : t.link = s.link := (entered_link p ret vec s).trans (hbyteLink.trans hwordLink)
  have hts : t.sub.s.toNat + 3 = s.sub.s.toNat := by
    have h := entered_s p ret vec s
    change (s.entered p ret vec).sub.s.toNat + 3 = _
    omega
  have hp' : t.sub.ram.read (s.sub.s.toNat - 2) = p := by
    rw [htram]
    exact Memory.read_write_same _ _ _ _ _ hwf
  have hlo' : t.sub.ram.read (s.sub.s.toNat - 1) = ret.lo := by
    rw [htram, Memory.read_write_other _ _ _ _ (by omega), hlo]
  have hhi' : t.sub.ram.read s.sub.s.toNat = ret.hi := by
    rw [htram, Memory.read_write_other _ _ _ _ (by omega), hhi]
  have hback := exec_rti_of_reads hts hn hhi' hlo' hp'
  rw [hp, ofNat_toNat_byte] at hback
  exact ⟨hlink, hback⟩

end entered

/-- BRK skips a byte, pushes P with B and takes its vector from 0xFFEC (R464). -/
theorem exec_brk (s : State) : exec .s8Brk s = .next (s.entered (s.sub.p ||| 0x10#8) (s.sub.spc + 1#16)
    (Word.ofBytes (s.sub.rom.read 0xFED) (s.sub.rom.read 0xFEC))) :=
  congrArg Host.Outcome.next (vector_after_pushes (a := 0xFFEC#16) _ _ s (by decide) (by decide))

/-- The vectors of the eight sources stand in ROM (R592). -/
theorem subTarget_vector : ∀ j < 8, subTarget (BitVec.ofNat 16 (0xFFFC - 2 * j)) = .rom (0xFFC - 2 * j) ∧
    subTarget (BitVec.ofNat 16 (0xFFFC - 2 * j) + 1#16) = .rom (0xFFD - 2 * j) := by decide

/-- The sub core enters a source's handler through the vector at `0xFFFC - 2 j` (R593). -/
theorem subEnter_eq {j : Nat} (hj : j < 8) (s : State) : subEnter j s = s.entered s.sub.p s.sub.spc
    (Word.ofBytes (s.sub.rom.read (0xFFD - 2 * j)) (s.sub.rom.read (0xFFC - 2 * j))) := by
  obtain ⟨hlow, hhigh⟩ := subTarget_vector j hj
  exact vector_after_pushes _ _ s hlow hhigh

/-! ## Which source is taken -/

/-- The table of R592: the enable bit of each source. -/
theorem due_eq (l : Link) {j : Nat} (hj : j < 8) :
    l.due j = (l.intPending.getLsbD j && l.intEnable.getLsbD (if j = 7 then 4 else j / 2)) := by
  have htable : ∀ j < 8, subEnableBit j = if j = 7 then 4 else j / 2 := by decide
  rw [Link.due, htable j hj, Bool.and_comm]

theorem subInterruptCheck_none (h : ∀ j, j < 8 → s.link.due j = false) : subInterruptCheck s = s := by
  have hsource : s.link.dueSource = none :=
    List.find?_range_eq_none.2 fun j hj => by rw [h j hj]; rfl
  rw [subInterruptCheck, hsource, ite_self]

/-- The first due source in order is taken (R592, R593). -/
theorem subInterruptCheck_first {j : Nat} (hI : s.pI = false) (hj : j < 8) (hdue : s.link.due j = true)
    (hfirst : ∀ k, k < j → s.link.due k = false) : subInterruptCheck s = subEnter j s := by
  have hsource : s.link.dueSource = some j :=
    List.find?_range_eq_some.2 ⟨hdue, List.mem_range.2 hj, fun k hk => by rw [hfirst k hk]; rfl⟩
  rw [subInterruptCheck, hsource, hI, if_neg Bool.false_ne_true]

/-! ## B does not come back -/

theorem bits_eq_of_noB {p q : Byte} (hp : p.getLsbD 4 = false)
    (h : ∀ k, k < 8 → q.getLsbD k = (p.getLsbD k && decide (k ≠ 4))) : q = p := by
  refine BitVec.eq_of_getLsbD_eq fun k hk => (h k hk).trans ?_
  obtain rfl | h4 := eq_or_ne k 4
  · rw [hp, Bool.false_and]
  · rw [decide_eq_true h4, Bool.and_true]

/-- P has no B of its own (R426), so a pull gives back what was pushed, with B set or not. -/
theorem dropB_of_statusOk (h : s.statusOk = true) : s.sub.p &&& 0xEF#8 = s.sub.p ∧
    (s.sub.p ||| 0x10#8) &&& 0xEF#8 = s.sub.p := by
  have hp : s.sub.p.getLsbD 4 = false := by
    rw [State.statusOk, Bool.and_eq_true, Bool.not_eq_true'] at h
    exact h.2
  refine ⟨bits_eq_of_noB hp fun k hk => getLsbD_dropB _ hk, bits_eq_of_noB hp fun k hk => ?_⟩
  rw [getLsbD_dropB _ hk, getLsbD_orB _ hk]
  by_cases h4 : k = 4 <;> simp [h4]

/-! ## The obligation -/

/-- Settles O53: every push and pull by `subPushed_subPush` and `subPulled_subPull`, the private RAM by `exec_jsr_ram`,
`exec_rts_ram` and `exec_rti_ram`, BRK and an interrupt as `State.entered`. -/
theorem subCallsAndInterrupts : Obligations.SubCallsAndInterrupts := by
  refine fun s => ⟨fun a => ⟨_, subPush (s.sub.spc - 1#16).hi s, _, _, exec_jsr a s, toNat_hi_lo (toNat_sub_one_word _),
      subPushed_subPush _ s, ?callLow, rfl, subPushWord_s _ s, ?callA, ?callX, ?callY, ?callP, subPushWord_side _ s,
      exec_jsr_ram a⟩,
    ⟨_, (subPull s).2, (subPull s).1, (subPull (subPull s).2).1, exec_rts s, subPulled_subPull s, ?rtsHigh, ?rtsSpc,
      subPullWord_s s, subPullWord_side s, exec_rts_ram⟩,
    ⟨_, (subPull s).2, (subPull (subPull s).2).2, (subPull s).1, (subPull (subPull s).2).1,
      (subPull (subPull (subPull s).2).2).1, exec_rti s, subPulled_subPull s, subPulled_subPull _, ?rtiHigh, ?rtiSpc,
      fun k hk => getLsbD_dropB _ hk, ?rtiS, ((subPull_side s).trans (subPullWord_side _)).setP_setSpc _ _,
      fun hn => ?rtiRam⟩,
    ?brk, fun j hj => due_eq _ hj, fun hI => if_pos hI, fun _ => subInterruptCheck_none,
    fun j hI hj hdue hfirst => ?interrupt⟩
  case callLow =>
    rw [setSpc_back (by rw [subPushWord_sub])]
    exact subPushed_subPush _ _
  case callA => rw [setSpc_sub_a, subPushWord_sub]
  case callX => rw [setSpc_sub_x, subPushWord_sub]
  case callY => rw [setSpc_sub_y, subPushWord_sub]
  case callP => rw [setSpc_sub_p, subPushWord_sub]
  case rtsHigh =>
    have hspc : (subPullWord s).2.sub.spc = s.sub.spc := by rw [subPullWord_sub]
    rw [setSpc_back hspc]
    exact subPulled_subPull _
  case rtsSpc =>
    have hw : (subPullWord s).1 + 1#16 - 1#16 = (subPullWord s).1 := BitVec.add_sub_cancel _ _
    exact (toNat_ofBytes_eq _ _).symm.trans ((congrArg BitVec.toNat hw.symm).trans (toNat_sub_one_word _))
  case rtiHigh =>
    have hsub : (subPullWord (subPull s).2).2.sub =
        { s.sub with s := (subPullWord (subPull s).2).2.sub.s } := by rw [subPullWord_sub, subPull_sub]
    rw [setP_setSpc_back (by rw [hsub]) (by rw [hsub])]
    exact subPulled_subPull _
  case rtiSpc => exact (toNat_ofBytes_eq _ _).symm.trans (Nat.mod_eq_of_lt (BitVec.isLt _)).symm
  case rtiS =>
    rw [setSpc_sub_s, setP_sub_s, subPullWord_s, subPull_s, toNat_add_one]
    omega
  case rtiRam =>
    have hnext := Host.Outcome.next.inj ((exec_rti s).symm.trans (exec_rti_ram (n := s.sub.s.toNat + 3) rfl (by omega)))
    rw [hnext]
    refine ⟨toNat_ofBytes_eq _ _, fun k hk h4 => ?_, rfl⟩
    rw [setSpc_sub_p, setP_sub_p, getLsbD_dropB _ hk, decide_eq_true h4, Bool.and_true]
    rfl
  case brk =>
    obtain ⟨u1, u2, hhi, hlo, hp⟩ := entered_pushed (s.sub.p ||| 0x10#8) (s.sub.spc + 1#16)
      (Word.ofBytes (s.sub.rom.read 0xFED) (s.sub.rom.read 0xFEC)) s
    refine ⟨_, u1, u2, _, _, _, exec_brk s, toNat_hi_lo (BitVec.toNat_add _ _), hhi, hlo, hp,
      fun k hk => getLsbD_orB _ hk, entered_s _ _ _ s, entered_pI _ _ _ s, entered_keepsP _ _ _ s, rfl,
      entered_side _ _ _ s, fun hpos hn ha hok => ?_⟩
    obtain ⟨-, hback⟩ := exec_rti_entered _ _ _ hpos hn ha (dropB_of_statusOk hok).2
    exact hback
  case interrupt =>
    intro t
    have ht : t = s.entered s.sub.p s.sub.spc _ := (subInterruptCheck_first hI hj hdue hfirst).trans (subEnter_eq hj s)
    obtain ⟨u1, u2, hhi, hlo, hp⟩ := entered_pushed s.sub.p s.sub.spc
      (Word.ofBytes (s.sub.rom.read (0xFFD - 2 * j)) (s.sub.rom.read (0xFFC - 2 * j))) s
    clear_value t
    subst ht
    exact ⟨⟨u1, u2, _, _, toNat_hi_lo (Nat.mod_eq_of_lt s.sub.spc.isLt).symm, hhi, hlo, hp⟩, entered_s _ _ _ s,
      entered_pI _ _ _ s, entered_keepsP _ _ _ s, rfl, entered_side _ _ _ s,
      fun hpos hn ha hok => exec_rti_entered _ _ _ hpos hn ha (dropB_of_statusOk hok).1⟩

end Sys2Proof.Machine
end

section
/-! Proofs. Every step keeps the interrupt lines: those of the timers and of IRQ0 are levels, those the host drives are
left to it (R507, R514, R515, R579, R638, R640, R670). -/

namespace Sys2Proof.Machine

variable {s t u : State}

/-- `State.linesOk` taken apart: the timers' lines (R579) and IRQ0 (R638). -/
structure LinesOk (s : State) : Prop where
  timers : ∀ l ∈ s.dev.lines, s.pending l.1 = l.2
  irq0 : s.pending .irq0 = s.pcm.voiceIrqPending

theorem linesOk_iff : s.linesOk = true ↔ LinesOk s := by
  simp only [State.linesOk, Bool.and_eq_true, List.all_eq_true, beq_iff_eq]
  exact ⟨fun ⟨htimers, hirq0⟩ => ⟨htimers, hirq0⟩, fun ⟨htimers, hirq0⟩ => ⟨htimers, hirq0⟩⟩

/-- From `s` to `t` the lines that are levels stay levels, and the host's lines do not change. -/
structure KeepsLines (s t : State) : Prop where
  levels : LinesOk s → LinesOk t
  host : ∀ x ∈ hostLines, t.pending x = s.pending x

theorem KeepsLines.refl (s : State) : KeepsLines s s := ⟨id, fun _ _ => rfl⟩

theorem KeepsLines.trans (h : KeepsLines s t) (g : KeepsLines t u) : KeepsLines s u :=
  ⟨g.levels ∘ h.levels, fun x hx => (g.host x hx).trans (h.host x hx)⟩

/-- Whatever leaves the pending table, the timers' flags and enables, and the interrupt in flight. -/
theorem KeepsLines.of_eq (hpending : t.cpu.intPending = s.cpu.intPending) (hlines : t.dev.lines = s.dev.lines)
    (hvoice : t.pcm.voiceIrqPending = s.pcm.voiceIrqPending) : KeepsLines s t := by
  have hp : t.pending = s.pending := funext fun x => congrArg (·.getLsbD x.index) hpending
  refine ⟨fun ⟨htimers, hirq0⟩ => ⟨?_, ?_⟩, fun x _ => congrFun hp x⟩
  · rw [hlines, hp]
    exact htimers
  · rw [hp, hvoice]
    exact hirq0

/-- A line of the host is neither a timer's nor IRQ0 (R670). -/
theorem hostLines_apart {x : Source} (hx : x ∈ hostLines) : x ∉ timerSources ∧ x ≠ .irq0 := by
  revert x
  decide

/-- A line of R579 is a timer's. -/
theorem ne_of_mem_lines {d : Dev} {l : Source × Bool} {x : Source} (hl : l ∈ d.lines) (hx : x ∉ timerSources) :
    l.1 ≠ x :=
  ne_of_mem_of_not_mem (lines_sources d ▸ List.mem_map_of_mem hl : l.1 ∈ timerSources) hx

theorem irq0_not_mem_timerSources : Source.irq0 ∉ timerSources := by decide

/-- Evaluating the timers' lines makes them levels, whatever they were, and touches no other (R579). -/
theorem timerLines_keepsLines {d : Dev} (s : State) : KeepsLines s (timerLines { s with dev := d }) where
  levels h := {
    timers := fun _ hl => pending_timerLines hl
    irq0 := (pending_timerLines_other irq0_not_mem_timerSources).trans h.irq0 }
  host _ hx := pending_timerLines_other (hostLines_apart hx).1

/-! ## Accesses of the buses -/

/-- The lines see a timer's flags and enables alone (R579). -/
theorem setFrt_lines (d : Dev) (k : FrtId) (f : Frt) (htcsr : f.tcsr = (d.frt k).tcsr) (htcr : f.tcr = (d.frt k).tcr) :
    (d.setFrt k f).lines = d.lines := by
  have hline : f.line = (d.frt k).line := funext fun i => by rw [Frt.line, Frt.line, htcsr, htcr]
  cases k <;> simp only [Dev.lines, Dev.setFrt, hline] <;> rfl

/-- Reading the interrupt's status acknowledges it: IRQ0 falls with it (R640). -/
theorem acknowledge_keepsLines (s : State) :
    KeepsLines s (setLine .irq0 false { s with pcm.voiceIrqPending := false }) where
  levels h := {
    timers := fun l hl =>
      (pending_setLine_other _ _ _ _ (ne_of_mem_lines hl irq0_not_mem_timerSources)).trans (h.timers l hl)
    irq0 := pending_setLine_same _ _ _ }
  host _ hx := pending_setLine_other _ _ _ _ (hostLines_apart hx).2

theorem pcmRead_keepsLines (r : BitVec 6) (s : State) : KeepsLines s (pcmRead r s).2 := by
  unfold pcmRead
  split
  case h_3 => exact acknowledge_keepsLines s
  all_goals exact .of_eq rfl rfl rfl

theorem pcmWrite_keepsLines (r : BitVec 6) (v : Byte) (s : State) : KeepsLines s (pcmWrite r v s) := by
  unfold pcmWrite
  split <;> exact .of_eq rfl rfl rfl

theorem windowRead_keepsLines (i : Nat) (s : State) : KeepsLines s (windowRead i s).2 := by
  unfold windowRead
  split_ifs <;> exact .of_eq rfl rfl rfl

theorem windowWrite_keepsLines (i : Nat) (v : Byte) (s : State) : KeepsLines s (windowWrite i v s) := by
  unfold windowWrite
  split_ifs <;> exact .of_eq rfl rfl rfl

/-- Reading TCSR marks flags and changes none (R574). -/
theorem devRead_keepsLines (i : Nat) (s : State) : KeepsLines s (devRead i s).2 := by
  unfold devRead
  cases devReg i with
  | frt k r =>
    cases r with
    | tcsr => exact .of_eq rfl (setFrt_lines _ _ _ rfl rfl) rfl
    | _ => exact .refl s
  | _ => exact .of_eq rfl rfl rfl

/-- A write of TCR or TCSR evaluates the lines again; no other register has a flag or an enable (R573, R575). -/
theorem devWrite_keepsLines (pa : BusAddr) (i : Nat) (v : Byte) (s : State) : KeepsLines s (devWrite pa i v s) := by
  unfold devWrite
  cases devReg i with
  | frt k r =>
    cases r with
    | tcr | tcsr => exact timerLines_keepsLines s
    | _ => exact .of_eq rfl (setFrt_lines _ _ _ rfl rfl) rfl
  | tmrTcr | tmrTcsr => exact timerLines_keepsLines s
  | _ => exact .of_eq rfl rfl rfl

theorem read8_keepsLines (pa : BusAddr) (s : State) : KeepsLines s (read8 pa s).2 := by
  unfold read8
  cases s.target pa with
  | pcm r => exact pcmRead_keepsLines r s
  | shared i => exact windowRead_keepsLines i s
  | dev i => exact devRead_keepsLines i s
  | _ => exact .of_eq rfl rfl rfl

theorem write8_keepsLines (pa : BusAddr) (v : Byte) (s : State) : KeepsLines s (write8 pa v s) := by
  unfold write8
  cases s.target pa with
  | pcm r => exact pcmWrite_keepsLines r v s
  | shared i => exact windowWrite_keepsLines i v s
  | dev i => exact devWrite_keepsLines pa i v s
  | _ => exact .of_eq rfl rfl rfl

/-- The sub core's bus does not reach the main core's lines (R402). -/
theorem subRead_keepsLines (a : Word) (s : State) : KeepsLines s (subRead a s).2 := by
  obtain ⟨l, h, -⟩ := subRead_shape s a
  rw [h]
  exact .of_eq rfl rfl rfl

theorem subWrite_keepsLines (a : Word) (v : Byte) (s : State) : KeepsLines s (subWrite a v s) := by
  obtain ⟨l, ram, o, h⟩ := subWrite_shape s a v
  rw [h]
  exact .of_eq rfl rfl rfl

/-! ## The cores' own moves -/

theorem crWrite_keepsLines (cr : CReg) (v : Word) (s : State) : KeepsLines s (s.crWrite cr v) := by
  cases cr <;> exact .of_eq rfl rfl rfl

/-- The cores reach the lines through the two buses alone: taking an interrupt does not clear its line (R514). -/
theorem Moves.keepsLines (h : Moves s t) : KeepsLines s t := by
  induction h with
  | refl => exact .refl s
  | read8 _ ih => exact ih.trans (read8_keepsLines _ _)
  | write8 _ ih => exact ih.trans (write8_keepsLines _ _ _)
  | subRead _ ih => exact ih.trans (subRead_keepsLines _ _)
  | subWrite _ ih => exact ih.trans (subWrite_keepsLines _ _ _)
  | crWrite _ ih => exact ih.trans (crWrite_keepsLines _ _ _)
  | setP _ _ ih => exact ih.trans (.of_eq rfl rfl rfl)
  | _ _ ih => exact ih.trans (.of_eq rfl rfl rfl)

/-! ## The host -/

theorem reset_linesOk : LinesOk State.reset := linesOk_iff.1 (by decide)

/-- Reset lowers every line, and what raises them (R50, R51, R53). -/
theorem hostReset_linesOk (s : State) : LinesOk (hostReset s) := by
  have hregisters : LinesOk (resetRegisters s) := ⟨reset_linesOk.timers, reset_linesOk.irq0⟩
  have hvector : LinesOk (loadVector 0 (resetRegisters s)) := (Moves.loadVector .refl).keepsLines.levels hregisters
  unfold hostReset loadSubVector
  split
  · exact hvector
  · exact (Moves.setSpc (.subReadWord .refl)).keepsLines.levels hvector

/-- The host's own lines are no levels: it may drive them as it likes (R507, R670). -/
theorem setLine_linesOk {x : Source} (hx : x ∈ hostLines) (b : Bool) (h : LinesOk s) : LinesOk (setLine x b s) := by
  obtain ⟨htimer, hirq0⟩ := hostLines_apart hx
  exact ⟨fun l hl => (pending_setLine_other _ _ _ _ (ne_of_mem_lines hl htimer)).trans (h.timers l hl),
    (pending_setLine_other _ _ _ _ hirq0.symm).trans h.irq0⟩

theorem postUart_keepsLines (b : Byte) (s : State) : KeepsLines s (postUart b s) := by
  unfold postUart
  split
  · exact .refl s
  · split <;> exact .of_eq rfl rfl rfl

theorem hostEvent_linesOk (e : HostEvent) (h : LinesOk s) : LinesOk (hostEvent e s) := by
  cases e with
  | reset => exact hostReset_linesOk s
  | setNmi b | setIrq1 b | setAdi b => exact setLine_linesOk (by decide) b h
  | setSci l b => exact setLine_linesOk (by cases l <;> decide) b h
  | postUart b => exact (postUart_keepsLines b s).levels h
  | tick => exact h

theorem takeHost_linesOk (es : List HostEvent) (h : LinesOk s) : LinesOk (takeHost es s) := by
  induction es generalizing s with
  | nil => exact ⟨h.timers, h.irq0⟩
  | cons e es ih =>
    by_cases he : e = .tick
    · subst he
      exact ⟨h.timers, h.irq0⟩
    · rw [takeHost_cons e es s he]
      exact ih (hostEvent_linesOk e h)

/-! ## The passage of time -/

/-- A tick of the engine can raise IRQ0, and touches no other line (R638). -/
theorem pcmTick_pending_other (s : State) {x : Source} (hx : x ≠ .irq0) : (pcmTick s).pending x = s.pending x := by
  unfold pcmTick State.pending
  dsimp only
  split
  · exact pendingWith_other _ _ _ _ hx
  · rfl

theorem pcmTick_keepsLines (s : State) : KeepsLines s (pcmTick s) where
  levels h := {
    timers := fun l hl =>
      (pcmTick_pending_other s (ne_of_mem_lines hl irq0_not_mem_timerSources)).trans (h.timers l hl)
    irq0 := pcmTick_irq0 h.irq0 }
  host _ hx := pcmTick_pending_other s (hostLines_apart hx).2

theorem pcmTicks_keepsLines (n : Nat) (s : State) : KeepsLines s (pcmTicks n s) := by
  induction n generalizing s with
  | zero => exact .refl s
  | succ n ih => exact (pcmTick_keepsLines s).trans (ih _)

theorem timerClocks_keepsLines (n : Nat) (s : State) : KeepsLines s (timerClocks n s) := by
  induction n generalizing s with
  | zero => exact .refl s
  | succ n ih => exact (timerLines_keepsLines s).trans (ih _)

theorem afterInstruction_keepsLines (s : State) : KeepsLines s (afterInstruction s) := by
  have hcycles : KeepsLines s (addCycles s) := .of_eq rfl rfl rfl
  have hpcm : KeepsLines s (pcmUpdate (addCycles s)) := hcycles.trans (pcmTicks_keepsLines _ _)
  exact (hpcm.trans (timerClocks_keepsLines _ _)).trans (.of_eq rfl rfl rfl)

/-! ## The step -/

/-- On the main core's turn the host comes first, then what keeps the lines; on the sub core's turn nothing else. -/
theorem step_keepsLines (h : step s = .next t) :
    (s.model.phase = .main ∧ KeepsLines (takeHost s.model.hostIn s) t) ∨ (s.model.phase = .sub ∧ KeepsLines s t) := by
  obtain ⟨hphase, u, hu, rfl⟩ | ⟨hphase, u, hu, rfl⟩ := step_next h
  · exact .inl ⟨hphase, hu.keepsLines.trans (afterInstruction_keepsLines u)⟩
  · have hdevices : KeepsLines s (subDevUpdate s) := .of_eq rfl rfl rfl
    exact .inr ⟨hphase, (hdevices.trans hu.keepsLines).trans (.of_eq rfl rfl rfl)⟩

/-- Settles O57, by `step_keepsLines`; the host's actions keep the levels by `takeHost_linesOk`. -/
theorem stepKeepsLines : Obligations.StepKeepsLines := by
  refine ⟨fun s t hs h => linesOk_iff.2 ?levels, fun s t h => ?host⟩
  case levels =>
    obtain ⟨-, hkeeps⟩ | ⟨-, hkeeps⟩ := step_keepsLines h
    · exact hkeeps.levels (takeHost_linesOk _ (linesOk_iff.1 hs))
    · exact hkeeps.levels (linesOk_iff.1 hs)
  case host =>
    obtain ⟨hphase, hkeeps⟩ | ⟨hphase, hkeeps⟩ := step_keepsLines h
    · exact ⟨fun _ => hkeeps.host, fun hsub => absurd (hphase.symm.trans hsub) (by decide)⟩
    · exact ⟨fun hmain => absurd (hphase.symm.trans hmain) (by decide), fun _ => hkeeps.host⟩

end Sys2Proof.Machine
end

section
/-! Proofs. The vector table in ROM1 (R78, R83, R85, R503). -/

namespace Sys2Proof.Machine

variable {s : State} {v : Nat}

/-- The four bytes of the entry are read in order, the first is ignored (R503). -/
theorem loadVector_eq (v : Nat) (s : State) :
    let w0 := read8 (BitVec.ofNat 20 (4 * v)) s
    let w1 := read8 (BitVec.ofNat 20 (4 * v + 1)) w0.2
    let w2 := read8 (BitVec.ofNat 20 (4 * v + 2)) w1.2
    let w3 := read8 (BitVec.ofNat 20 (4 * v + 3)) w2.2
    loadVector v s = { w3.2 with cpu.cp := w1.1, cpu.pc := Word.ofBytes w2.1 w3.1 } := by
  simp only [BitVec.ofNat_add]
  rfl

theorem read8_rom1 {pa : BusAddr} {i : Nat} (h : s.target pa = .rom1 i) : read8 pa s = (s.mem.rom1.read i, s) := by
  rw [read8, h]

/-- From ROM1 the entry is read without a side effect. -/
theorem loadVector_rom (h : vectorInRom s.params v) : loadVector v s =
    { s with cpu.cp := s.mem.rom1.read (4 * v + 1),
             cpu.pc := Word.ofBytes (s.mem.rom1.read (4 * v + 2)) (s.mem.rom1.read (4 * v + 3)) } := by
  have hread (k : Nat) (hk : k < 4) :
      read8 (BitVec.ofNat 20 (4 * v + k)) s = (s.mem.rom1.read (4 * v + k), s) := read8_rom1 (h s.dev.rame k hk)
  have hfirst : read8 (BitVec.ofNat 20 (4 * v)) s = (s.mem.rom1.read (4 * v), s) := hread 0 (by decide)
  rw [loadVector_eq, hfirst, hread 1 (by decide), hread 2 (by decide), hread 3 (by decide)]

/-- The default map has the whole table in ROM1 (R83, R85). -/
theorem vectorInRom_default {p : Params} (hmap : p.memMap = defaultMemMap) (hv : v < 64) : vectorInRom p v := by
  intro rame k hk
  have hpa : (BitVec.ofNat 20 (4 * v + k)).toNat = 4 * v + k := Nat.mod_eq_of_lt (by omega)
  have htarget : busTarget p rame (BitVec.ofNat 20 (4 * v + k)) =
      mapTarget p rame (BitVec.ofNat 20 (4 * v + k)).toNat p.memMap := rfl
  rw [htarget, hpa, hmap, mapTarget_defaultMemMap p rame (by omega)]
  exact if_pos (by omega)

end Sys2Proof.Machine
end

section
/-! Proofs. Taking an exception, and RTE as its inverse where the stack is in RAM (R357, R503, R520, R522). -/

namespace Sys2Proof.Machine

variable {s t : State} {a b c : Word}

/-! ## The status register -/

/-- SR as an exception leaves it (R520): T clear, the mask new or kept. -/
def enteredSr (mask : Option (BitVec 3)) (sr : Word) : Word :=
  match mask with
  | none => sr &&& 0x7FFF#16
  | some l => (sr &&& 0x7FFF#16 &&& 0xF8FF#16) ||| (l.setWidth 16 <<< 8)

theorem enterStatus_eq (mask : Option (BitVec 3)) (s : State) :
    enterStatus mask s = { s with cpu.sr := enteredSr mask s.cpu.sr, cpu.sleep := false } := by
  cases mask <;> rfl

theorem getLsbD_level (l : BitVec 3) {k : Nat} (hk : k < 16) :
    (l.setWidth 16 <<< 8).getLsbD k = (decide (8 ≤ k ∧ k < 11) && l.getLsbD (k - 8)) := by
  rw [BitVec.getLsbD_shiftLeft, BitVec.getLsbD_setWidth, decide_eq_true hk, decide_eq_true (by omega : k - 8 < 16),
    Bool.true_and, Bool.true_and]
  have h8 : (!decide (k < 8)) = decide (8 ≤ k) := by rw [← decide_not, decide_eq_decide, Nat.not_lt]
  rw [h8]
  by_cases h11 : k < 11
  · simp [h11]
  · rw [BitVec.getLsbD_of_ge l _ (by omega), Bool.and_false, Bool.and_false]

theorem getLsbD_enteredSr (mask : Option (BitVec 3)) (sr : Word) {k : Nat} (hk : k < 16) :
    (enteredSr mask sr).getLsbD k =
      if k = 15 then false
      else if 8 ≤ k ∧ k < 11 then
        match mask with
        | some l => l.getLsbD (k - 8)
        | none => sr.getLsbD k
      else sr.getLsbD k := by
  have htrace : ∀ k < 16, (0x7FFF#16).getLsbD k = decide (k ≠ 15) := by decide
  have hmask : ∀ k < 16, (0xF8FF#16).getLsbD k = !decide (8 ≤ k ∧ k < 11) := by decide
  cases mask with
  | none =>
    rw [enteredSr, BitVec.getLsbD_and, htrace k hk]
    split_ifs with h15 <;> simp [h15]
  | some l =>
    rw [enteredSr, BitVec.getLsbD_or, BitVec.getLsbD_and, BitVec.getLsbD_and, htrace k hk, hmask k hk,
      getLsbD_level l hk]
    split_ifs with h15 hfield
    · simp [h15]
    · simp [hfield]
    · simp [h15, hfield]

/-- A status register with no bit of its own but those that exist comes back from RTE as it was pushed (R25, R26). -/
theorem sr_masked (h : s.statusOk = true) : s.cpu.sr &&& 0x870F#16 = s.cpu.sr := by
  have hsr : s.cpu.sr &&& ~~~0x870F#16 = 0#16 := by
    rw [State.statusOk, Bool.and_eq_true, beq_iff_eq] at h
    exact h.1
  calc s.cpu.sr &&& 0x870F#16
    _ = (s.cpu.sr &&& 0x870F#16) ||| (s.cpu.sr &&& ~~~0x870F#16) := by rw [hsr, BitVec.or_zero]
    _ = s.cpu.sr &&& (0x870F#16 ||| ~~~0x870F#16) := BitVec.and_or_distrib_left.symm
    _ = s.cpu.sr := by rw [BitVec.or_not_self, BitVec.and_allOnes]

/-! ## The frame -/

/-- `Enter` is the frame, the status and the vector, in this order (R520). -/
theorem enter_eq (v : Nat) (mask : Option (BitVec 3)) (s : State) : enter v mask s =
    loadVector v { pushFrame s with cpu.sr := enteredSr mask s.cpu.sr, cpu.sleep := false } := by
  have hsr : (pushFrame s).cpu.sr = s.cpu.sr := by simp [pushFrame]
  rw [enter, enterStatus_eq, hsr]

theorem pushFrame_params (s : State) : (pushFrame s).params = s.params := by simp [pushFrame]

theorem pushFrame_rom1 (s : State) : (pushFrame s).mem.rom1 = s.mem.rom1 := by simp [pushFrame]

theorem pushFrame_tp (s : State) : (pushFrame s).cpu.tp = s.cpu.tp := by simp [pushFrame]

/-- The frame takes three words of the stack (R520). -/
theorem pushFrame_regs (s : State) : (pushFrame s).cpu.regs = s.cpu.regs.set .r7 (s.reg .r7 - 6#16) := by
  have hset : ∀ (r : Regs) (x y : Word), (r.set .r7 x).set .r7 y = r.set .r7 y := fun _ _ _ => rfl
  have hsp : s.reg .r7 - 2#16 - 2#16 - 2#16 = s.reg .r7 - 6#16 := by bv_omega
  rw [pushFrame, push16_regs, push16_regs, push16_regs, push16_sp, push16_sp, push16_sp, hset, hset, hsp]

theorem pushAddr_push16_push16 (a b : Word) (s : State) :
    (push16 b (push16 a s)).pushAddr = busAddr s.cpu.tp (s.reg .r7 - 6#16) := by
  rw [pushAddr_push16, push16_tp, push16_sp, BitVec.sub_sub]
  rfl

/-- Three words of RAM below R[7]: the place of a push, those of a second and a third one, and the first apart from
them. -/
theorem ramAt_of_stackRam_three (a b : Word) (h : s.stackRam (s.reg .r7 - 6#16) 3 = true) :
    s.ramAt .word s.pushAddr = true ∧ (push16 a s).stackRam ((push16 a s).reg .r7 - 4#16) 2 = true ∧
      ∀ g ∈ (accessBytes .word s.pushAddr).map s.target,
        g ∉ (accessBytes .word (push16 a s).pushAddr).map s.target ∧
        g ∉ (accessBytes .word (push16 b (push16 a s)).pushAddr).map s.target := by
  have hmiddle : s.reg .r7 - 6#16 + BitVec.ofNat 16 (2 * 1) = s.reg .r7 - 4#16 := by bv_omega
  have hupper : s.reg .r7 - 6#16 + BitVec.ofNat 16 (2 * 2) = s.reg .r7 - 2#16 := by bv_omega
  have hbase : (push16 a s).reg .r7 - 4#16 = s.reg .r7 - 6#16 := by rw [push16_sp]; bv_omega
  rw [State.stackRam, stackBytes_add s _ 2 1, stackBytes_one, hupper] at h
  obtain ⟨hlower, hfirst, hapart⟩ := distinctRam_append.1 h
  refine ⟨hfirst, ?_, ?_⟩
  · rwa [hbase, State.stackRam, distinctRam_congr (push16_target hfirst), stackBytes_congr (push16_tp s a)]
  · rw [stackBytes_add s _ 1 1, stackBytes_one, stackBytes_one, hmiddle, ← pushAddr_push16 a,
      ← pushAddr_push16_push16 a b, List.map_append] at hapart
    exact fun g hg => ⟨fun hg' => hapart g (List.mem_append_right _ hg') hg,
      fun hg' => hapart g (List.mem_append_left _ hg') hg⟩

/-- Three words pushed to RAM stand there, each below the one before. -/
theorem holdsWord_push16_three (ha : s.arraysOk = true) (hram : s.stackRam (s.reg .r7 - 6#16) 3 = true) :
    HoldsWord (push16 c (push16 b (push16 a s))) s.pushAddr a ∧
    HoldsWord (push16 c (push16 b (push16 a s))) (push16 a s).pushAddr b ∧
    HoldsWord (push16 c (push16 b (push16 a s))) (push16 b (push16 a s)).pushAddr c := by
  obtain ⟨hfirst, hrest, hapart⟩ := ramAt_of_stackRam_three a b hram
  obtain ⟨hsecond, hthird, -⟩ := ramAt_of_stackRam b hrest
  obtain ⟨-, -, hstored⟩ := push16_ram a hfirst
  have htarget : (push16 a s).target = s.target := funext (push16_target hfirst)
  have htarget' : (push16 b (push16 a s)).target = s.target := (funext (push16_target hsecond)).trans htarget
  have hthird' : (push16 b (push16 a s)).ramAt .word (push16 b (push16 a s)).pushAddr = true := by
    rwa [State.ramAt, distinctRam_congr (push16_target hsecond)]
  have hupper : HoldsWord (push16 b (push16 a s)) s.pushAddr a := (holdsWord_push16 ha hfirst).push16 hsecond <| by
    rw [htarget]
    exact fun g hg => (hapart g hg).1
  refine ⟨hupper.push16 hthird' ?_, holdsWord_push16_push16 (hstored ha).1 hrest⟩
  rw [htarget']
  exact fun g hg => (hapart g hg).2

/-! ## The return -/

/-- Three words popped one after another are the three that stand from R[7] up (R170). -/
theorem pop16_three (ha : HoldsWord s (busAddr s.cpu.tp (s.reg .r7)) a)
    (hb : HoldsWord s (busAddr s.cpu.tp (s.reg .r7 + 2#16)) b)
    (hc : HoldsWord s (busAddr s.cpu.tp (s.reg .r7 + 4#16)) c) :
    (pop16 s).1 = a ∧ (pop16 (pop16 s).2).1 = b ∧ (pop16 (pop16 (pop16 s).2).2).1 = c := by
  obtain ⟨hfirst, hbytes⟩ := ha.pop16
  have haddr : (pop16 s).2.popAddr = busAddr s.cpu.tp (s.reg .r7 + 2#16) := by rw [State.popAddr, pop16_tp, pop16_sp]
  have hb' : HoldsWord (pop16 s).2 (pop16 s).2.popAddr b := haddr ▸ hb.congr hbytes
  obtain ⟨hsecond, hbytes'⟩ := hb'.pop16
  have haddr' : (pop16 (pop16 s).2).2.popAddr = busAddr s.cpu.tp (s.reg .r7 + 4#16) := by
    have hsp : s.reg .r7 + 2#16 + 2#16 = s.reg .r7 + 4#16 := by bv_omega
    rw [State.popAddr, pop16_tp, pop16_tp, pop16_sp, pop16_sp, hsp]
  have hc' : HoldsWord (pop16 (pop16 s).2).2 (pop16 (pop16 s).2).2.popAddr c :=
    haddr' ▸ (hc.congr hbytes).congr hbytes'
  exact ⟨hfirst, hsecond, hc'.pop16.1⟩

/-- Six bytes pushed and popped leave the registers as they were. -/
theorem pop16_three_regs (h : s.cpu.regs = t.cpu.regs.set .r7 (t.reg .r7 - 6#16)) :
    (pop16 (pop16 (pop16 s).2).2).2.cpu.regs = t.cpu.regs := by
  have hsp : s.reg .r7 + 2#16 + 2#16 + 2#16 = t.reg .r7 := by
    rw [State.reg, h, Regs.get_set_same]
    bv_omega
  rw [pop16_regs, pop16_regs, pop16_regs, pop16_sp, pop16_sp, pop16_sp, hsp, h]
  rfl

/-- RTE on a state that has the frame of `s` in its memory and R[7] at it brings back what the frame holds (R522). -/
theorem exec_rte_of_frame (ha : s.arraysOk = true) (hs : s.statusOk = true)
    (hram : s.stackRam (s.reg .r7 - 6#16) 3 = true) (hbytes : SameBytes (pushFrame s) t) (htp : t.cpu.tp = s.cpu.tp)
    (hregs : t.cpu.regs = (pushFrame s).cpu.regs) :
    ∃ u, exec .rte t = .next u ∧ u.cpu.sr = s.cpu.sr ∧ u.cpu.cp = s.cpu.cp ∧ u.cpu.pc = s.cpu.pc ∧
      u.cpu.regs = s.cpu.regs := by
  obtain ⟨hpc, hpage, hstatus⟩ :=
    holdsWord_push16_three (a := s.cpu.pc) (b := s.cpu.cp.setWidth 16) (c := s.cpu.sr) ha hram
  rw [pushFrame_regs] at hregs
  have hsp : t.reg .r7 = s.reg .r7 - 6#16 := by rw [State.reg, hregs, Regs.get_set_same]
  have hpageSp : t.reg .r7 + 2#16 = s.reg .r7 - 4#16 := by rw [hsp]; bv_omega
  have hpcSp : t.reg .r7 + 4#16 = s.reg .r7 - 2#16 := by rw [hsp]; bv_omega
  rw [pushAddr_push16_push16, ← htp, ← hsp] at hstatus
  rw [pushAddr_push16, ← htp, ← hpageSp] at hpage
  rw [State.pushAddr, ← htp, ← hpcSp] at hpc
  obtain ⟨hfirst, hsecond, hthird⟩ := pop16_three (hstatus.congr hbytes) (hpage.congr hbytes) (hpc.congr hbytes)
  refine ⟨_, exec_rte t, ?_, ?_, ?_, ?_⟩
  · rw [suppressCheck_cpu_sr, setPc_cpu_sr, setCp_cpu_sr, setSr_cpu_sr, hfirst, sr_masked hs]
  · rw [suppressCheck_cpu_cp, setPc_cpu_cp, setCp_cpu_cp, hsecond, lo_setWidth]
  · rw [suppressCheck_cpu_pc, setPc_cpu_pc, hthird]
  · rw [suppressCheck_cpu_regs, setPc_cpu_regs, setCp_cpu_regs, setSr_cpu_regs, pop16_three_regs hregs]

/-- Reading the vector leaves memory, TP and the registers. -/
theorem loadVector_kept (v : Nat) (s : State) : SameBytes s (loadVector v s) ∧ (loadVector v s).cpu.tp = s.cpu.tp ∧
    (loadVector v s).cpu.regs = s.cpu.regs := by
  refine ⟨⟨?_, ?_, ?_⟩, ?_, ?_⟩ <;> simp [loadVector]

/-- After `Enter` memory, TP and the registers are as the frame left them. -/
theorem enter_kept (v : Nat) (mask : Option (BitVec 3)) (s : State) : SameBytes (pushFrame s) (enter v mask s) ∧
    (enter v mask s).cpu.tp = (pushFrame s).cpu.tp ∧ (enter v mask s).cpu.regs = (pushFrame s).cpu.regs := by
  rw [enter_eq]
  generalize pushFrame s = u
  obtain ⟨hbytes, htp, hregs⟩ := loadVector_kept v { u with cpu.sr := enteredSr mask s.cpu.sr, cpu.sleep := false }
  have hstatus : SameBytes u { u with cpu.sr := enteredSr mask s.cpu.sr, cpu.sleep := false } := ⟨rfl, rfl, rfl⟩
  exact ⟨hstatus.trans hbytes, htp, hregs⟩

/-- Settles O37: the pushes by `pushed_push16`, SR by `getLsbD_enteredSr`, the vector by `loadVector_eq` and
`loadVector_rom`, the return by `exec_rte_of_frame`. -/
theorem exceptionEntry : Obligations.ExceptionEntry := by
  intro v mask s hv
  refine ⟨push16 s.cpu.pc s, push16 (s.cpu.cp.setWidth 16) (push16 s.cpu.pc s), pushFrame s, enteredSr mask s.cpu.sr,
    pushed_push16 _, ?page, pushed_push16 _, fun k hk => getLsbD_enteredSr mask _ hk, ?vector, fun hrom => ?rom,
    fun hmap => vectorInRom_default hmap hv, fun ha hs hram sr pc cp => ?undone⟩
  case page =>
    rw [BitVec.ofNat_toNat]
    exact pushed_push16 _
  case vector =>
    simp only [enter_eq, loadVector_eq]
  case rom =>
    have hparams := pushFrame_params s
    have hrom1 := pushFrame_rom1 s
    rw [enter_eq]
    generalize pushFrame s = u at hparams hrom1 ⊢
    rw [← hparams] at hrom
    rw [← hrom1]
    exact loadVector_rom hrom
  case undone =>
    obtain ⟨hbytes, htp, hregs⟩ := enter_kept v mask s
    rw [pushFrame_tp] at htp
    generalize enter v mask s = u at hbytes htp hregs ⊢
    exact exec_rte_of_frame ha hs hram (hbytes.trans ⟨rfl, rfl, rfl⟩) htp hregs

end Sys2Proof.Machine
end

section
/-! Proofs. One tick of each timer, and the clocks that tick it (R571, R572, R576, R577). -/

namespace Sys2Proof.Machine

/-! ## Flags -/

/-- A flag is set where its event happens, and one that is 1 stays (R572, R577). -/
theorem getLsbD_orBit_same {i : Nat} (b : Bool) (v : Byte) (hi : i < 8) :
    (orBit i b v).getLsbD i = (v.getLsbD i || b) := by
  cases b <;> simp [orBit, bit, hi]

/-- A comparison of two words is one of their numbers. -/
theorem beq_eq_decide_toNat {w : Nat} (x y : BitVec w) : (x == y) = decide (x.toNat = y.toNat) := by
  rw [Bool.beq_eq_decide_eq, decide_eq_decide, BitVec.toNat_inj]

/-! ## One tick -/

/-- `FrtTick` as arithmetic (R572). -/
theorem frt_tick (cclra : Bool) (f : Frt) :
    let n := (f.frc.toNat + 1) % 0x10000
    let a := decide (n = f.ocra.toNat)
    let k := if a = true ∧ cclra = true ∧ f.tcsr.getLsbD 0 = true then 0 else n
    let t := f.tick cclra
    t = { f with frc := t.frc, tcsr := t.tcsr } ∧ t.frc.toNat = k ∧
    t.tcsr = orBit 6 (decide (k = f.ocrb.toNat)) (orBit 5 a (orBit 4 (decide (f.frc.toNat = 0xFFFF)) f.tcsr)) := by
  intro n a k t
  have hn : (f.frc + 1#16).toNat = n := BitVec.toNat_add _ _
  have ha : (f.frc + 1#16 == f.ocra) = a := (beq_eq_decide_toNat _ _).trans (by rw [hn])
  have hk : t.frc.toNat = k := by
    change (if (f.frc + 1#16 == f.ocra && cclra && f.tcsr.getLsbD 0) = true then 0#16 else f.frc + 1#16).toNat = k
    rw [ha, apply_ite BitVec.toNat, hn]
    simp only [Bool.and_eq_true, and_assoc]
    rfl
  have hwrap : (f.frc.toNat + 1 == 0x10000) = decide (f.frc.toNat = 0xFFFF) := by
    rw [Bool.beq_eq_decide_eq, decide_eq_decide]
    omega
  have hb : (t.frc == f.ocrb) = decide (k = f.ocrb.toNat) := (beq_eq_decide_toNat _ _).trans (by rw [hk])
  refine ⟨rfl, hk, ?_⟩
  rw [← hb, ← ha, ← hwrap]
  rfl

/-- `TmrTick` as arithmetic (R577). -/
theorem tmr_tick (f : Tmr) :
    let n := (f.tcnt.toNat + 1) % 0x100
    let a := decide (n = f.tcora.toNat)
    let b := decide (n = f.tcorb.toNat)
    let c := f.tcr.toNat / 8 % 4
    let t := f.tick
    t = { f with tcnt := t.tcnt, tcsr := t.tcsr } ∧
    t.tcnt.toNat = (if (c = 1 ∧ a = true) ∨ (c = 2 ∧ b = true) then 0 else n) ∧
    t.tcsr = orBit 7 b (orBit 6 a (orBit 5 (decide (f.tcnt.toNat = 0xFF)) f.tcsr)) := by
  intro n a b c t
  have hn : (f.tcnt + 1#8).toNat = n := BitVec.toNat_add _ _
  have ha : (f.tcnt + 1#8 == f.tcora) = a := (beq_eq_decide_toNat _ _).trans (by rw [hn])
  have hb : (f.tcnt + 1#8 == f.tcorb) = b := (beq_eq_decide_toNat _ _).trans (by rw [hn])
  have hc : (f.tcr.extractLsb' 3 2).toNat = c := by
    rw [BitVec.extractLsb'_toNat, Nat.shiftRight_eq_div_pow]
  have hwrap : (f.tcnt.toNat + 1 == 0x100) = decide (f.tcnt.toNat = 0xFF) := by
    rw [Bool.beq_eq_decide_eq, decide_eq_decide]
    omega
  refine ⟨rfl, ?_, ?_⟩
  · change (if ((f.tcr.extractLsb' 3 2 == 1#2 && f.tcnt + 1#8 == f.tcora) ||
      (f.tcr.extractLsb' 3 2 == 2#2 && f.tcnt + 1#8 == f.tcorb)) = true then 0#8 else f.tcnt + 1#8).toNat = _
    rw [ha, hb, beq_eq_decide_toNat, beq_eq_decide_toNat, hc, apply_ite BitVec.toNat, hn]
    simp only [Bool.or_eq_true, Bool.and_eq_true, decide_eq_true_eq]
    rfl
  · rw [← ha, ← hb, ← hwrap]
    rfl

/-! ## The prescalers -/

/-- The low bits of the timer clock are all 0 exactly on the multiples of the period (R570). -/
theorem clockTicks_pow (t i : Nat) : clockTicks t (2 ^ i - 1) = decide (t % 2 ^ i = 0) := by
  rw [clockTicks, show Nat.land t (2 ^ i - 1) = t &&& (2 ^ i - 1) from rfl, Nat.and_two_pow_sub_one_eq_mod]
  rfl

/-- The period a free-running timer's clock select names (R571). -/
def frtDivisor (tcr : Byte) : Nat :=
  if tcr.toNat % 4 = 0 then 4 else if tcr.toNat % 4 = 1 then 8 else if tcr.toNat % 4 = 2 then 32 else 2

theorem frtDivisor_pow (tcr : Byte) : ∃ i, frtDivisor tcr = 2 ^ i ∧ frtMask tcr = 2 ^ i - 1 := by
  have hcks : (tcr.extractLsb' 0 2).toNat = tcr.toNat % 4 := by
    rw [BitVec.extractLsb'_toNat, Nat.shiftRight_zero]
  have hlt : tcr.toNat % 4 < 4 := Nat.mod_lt _ (by decide)
  unfold frtDivisor frtMask
  rw [hcks]
  generalize tcr.toNat % 4 = c at hlt ⊢
  interval_cases c
  · exact ⟨2, rfl, rfl⟩
  · exact ⟨3, rfl, rfl⟩
  · exact ⟨5, rfl, rfl⟩
  · exact ⟨1, rfl, rfl⟩

/-- The clocks that tick a free-running timer (R571). -/
theorem clockTicks_frtMask (t : Nat) (tcr : Byte) :
    clockTicks t (frtMask tcr) = decide (t % frtDivisor tcr = 0) := by
  obtain ⟨i, hdivisor, hmask⟩ := frtDivisor_pow tcr
  rw [hdivisor, hmask, clockTicks_pow]

/-- The period the 8-bit timer's clock select names, where it is not stopped (R576). -/
def tmrDivisor (v : Variant) (tcr : Byte) : Nat :=
  let c := tcr.toNat % 8
  if c = 1 then 8 else if c = 2 then 64 else if c = 3 then 1024 else match v with | .mk1 => 4 | .mk2 => 1

theorem tmrDivisor_pow (v : Variant) (tcr : Byte) : ∃ i, tmrDivisor v tcr = 2 ^ i ∧
    tmrMask v tcr = if tcr.toNat % 8 = 0 ∨ tcr.toNat % 8 = 4 then none else some (2 ^ i - 1) := by
  have hcks : (tcr.extractLsb' 0 3).toNat = tcr.toNat % 8 := by
    rw [BitVec.extractLsb'_toNat, Nat.shiftRight_zero]
  have hlt : tcr.toNat % 8 < 8 := Nat.mod_lt _ (by decide)
  unfold tmrDivisor tmrMask
  rw [hcks]
  generalize tcr.toNat % 8 = c at hlt ⊢
  have hslow : ∃ i, (match v with | .mk1 => 4 | .mk2 => 1) = 2 ^ i ∧
      (match v with | .mk1 => some 0x003 | .mk2 => some 0x000) = some (2 ^ i - 1) := by
    cases v
    · exact ⟨2, rfl, rfl⟩
    · exact ⟨0, rfl, rfl⟩
  obtain ⟨i, hdivisor, hmask⟩ := hslow
  interval_cases c
  · exact ⟨i, hdivisor, rfl⟩
  · exact ⟨3, rfl, rfl⟩
  · exact ⟨6, rfl, rfl⟩
  · exact ⟨10, rfl, rfl⟩
  · exact ⟨i, hdivisor, rfl⟩
  · exact ⟨i, hdivisor, hmask⟩
  · exact ⟨i, hdivisor, hmask⟩
  · exact ⟨i, hdivisor, hmask⟩

/-- The clocks that tick the 8-bit timer (R576). -/
theorem clock_tmr (p : Params) (d : Dev) : (d.clock p).tmr =
    if d.tmr.tcr.toNat % 8 = 0 ∨ d.tmr.tcr.toNat % 8 = 4 then d.tmr
    else if decide (d.tclk % tmrDivisor p.variant d.tmr.tcr = 0) = true then d.tmr.tick else d.tmr := by
  have hclock : (d.clock p).tmr = match tmrMask p.variant d.tmr.tcr with
    | none => d.tmr
    | some m => if clockTicks d.tclk m then d.tmr.tick else d.tmr := rfl
  obtain ⟨i, hdivisor, hmask⟩ := tmrDivisor_pow p.variant d.tmr.tcr
  rw [hclock, hdivisor, hmask, ← clockTicks_pow]
  split_ifs <;> simp [*]

/-- Settles O39: one tick by `frt_tick` and `tmr_tick`, the clocks by `clockTicks_frtMask` and `clock_tmr`. -/
theorem timerTicks : Obligations.TimerTicks := by
  refine ⟨fun cclra f => ?frt, fun f => ?tmr, fun p d => ⟨fun k => ?clock, rfl, clock_tmr p d⟩⟩
  case frt =>
    obtain ⟨hframe, hfrc, htcsr⟩ := frt_tick cclra f
    refine ⟨hframe, hfrc, ?_, ?_, ?_, fun i _ hi => ?_⟩ <;> rw [htcsr]
    · rw [getLsbD_orBit _ _ (by decide), getLsbD_orBit _ _ (by decide), getLsbD_orBit_same _ _ (by decide)]
    · rw [getLsbD_orBit _ _ (by decide), getLsbD_orBit_same _ _ (by decide), getLsbD_orBit _ _ (by decide)]
    · rw [getLsbD_orBit_same _ _ (by decide), getLsbD_orBit _ _ (by decide), getLsbD_orBit _ _ (by decide)]
    · rw [getLsbD_orBit _ _ (by omega), getLsbD_orBit _ _ (by omega), getLsbD_orBit _ _ (by omega)]
  case tmr =>
    obtain ⟨hframe, htcnt, htcsr⟩ := tmr_tick f
    refine ⟨hframe, htcnt, ?_, ?_, ?_, fun i hi => ?_⟩ <;> rw [htcsr]
    · rw [getLsbD_orBit _ _ (by decide), getLsbD_orBit _ _ (by decide), getLsbD_orBit_same _ _ (by decide)]
    · rw [getLsbD_orBit _ _ (by decide), getLsbD_orBit_same _ _ (by decide), getLsbD_orBit _ _ (by decide)]
    · rw [getLsbD_orBit_same _ _ (by decide), getLsbD_orBit _ _ (by decide), getLsbD_orBit _ _ (by decide)]
    · rw [getLsbD_orBit _ _ (by omega), getLsbD_orBit _ _ (by omega), getLsbD_orBit _ _ (by omega)]
  case clock =>
    rw [clock_frt, clockTicks_frtMask]
    rfl

end Sys2Proof.Machine
end

section
/-! Proofs. The timers and the PCM engine catch up with the cycle counter, no further (R570, R579, R630, R631, R642). -/

namespace Sys2Proof.Machine

variable {s : State}

/-! ## The timers -/

/-- What `n` timer clocks do (R570, R579): the devices' clock `n` times, and the lines of the timers as the last leaves
them. -/
structure Clocked (n : Nat) (s t : State) : Prop where
  dev : t.dev = Nat.iterate (Dev.clock s.params) n s.dev
  frame : t = { s with dev := t.dev, cpu.intPending := t.cpu.intPending }
  idle : n = 0 → t = s
  lines : 0 < n → ∀ x ∈ t.dev.lines, t.pending x.1 = x.2
  kept : ∀ x : Source, x ∉ timerSources → t.pending x = s.pending x

theorem timerClocks_clocked (n : Nat) (s : State) : Clocked n s (timerClocks n s) := by
  induction n generalizing s with
  | zero => exact ⟨rfl, rfl, fun _ => rfl, fun h => absurd h (Nat.lt_irrefl 0), fun _ _ => rfl⟩
  | succ n ih =>
    obtain ⟨hdev, hframe, hidle, hlines, hkept⟩ := ih (timerClock s)
    refine ⟨hdev, ?_, nofun, fun _ => ?_, fun x hx => (hkept x hx).trans (pending_timerLines_other hx)⟩
    · exact hframe
    · obtain rfl | hn := Nat.eq_zero_or_pos n
      · exact fun x hx => pending_timerLines hx
      · exact hlines hn

theorem iterate_clock_tclk (p : Params) (n : Nat) (d : Dev) : (Nat.iterate (Dev.clock p) n d).tclk = d.tclk + n := by
  induction n generalizing d with
  | zero => rfl
  | succ n ih =>
    have hclock : (d.clock p).tclk = d.tclk + 1 := rfl
    rw [Function.iterate_succ_apply, ih, hclock, Nat.add_assoc, Nat.add_comm 1]

/-- The clocks due bring the timer clock up to the cycle count, and the last of them was still behind it (R570). -/
theorem timerClocksDue_spec {p : Params} (hp : 0 < p.timerDiv) (tclk cycles : Nat) :
    cycles ≤ (tclk + timerClocksDue p tclk cycles) * p.timerDiv ∧
    (timerClocksDue p tclk cycles = 0 ∨ (tclk + timerClocksDue p tclk cycles - 1) * p.timerDiv < cycles) := by
  have hceil : cycles ⌈/⌉ p.timerDiv = (cycles + p.timerDiv - 1) / p.timerDiv := Nat.ceilDiv_eq_add_pred_div _ _
  have hle : ∀ m, cycles ≤ m * p.timerDiv ↔ cycles ⌈/⌉ p.timerDiv ≤ m := fun m => by
    rw [ceilDiv_le_iff_le_mul hp, Nat.mul_comm]
  rw [timerClocksDue, ← hceil]
  refine ⟨(hle _).2 (by omega), ?_⟩
  rw [← not_le, hle]
  omega

/-! ## The engine -/

theorem pcmTicks_eq_iterate (n : Nat) (s : State) : pcmTicks n s = Nat.iterate pcmTick n s := by
  induction n generalizing s with
  | zero => rfl
  | succ n ih => exact ih (pcmTick s)

/-- The voice loop leaves the voice count and `env_counter` (R631, R634). -/
theorem stepVoices_count_env (active : BitVec 32) (k n : Nat) (m : Pcm) :
    (Pcm.stepVoices active k n m).activeVoiceCount = m.activeVoiceCount ∧
    (Pcm.stepVoices active k n m).envCounter = m.envCounter := by
  induction k generalizing n m with
  | zero => exact ⟨rfl, rfl⟩
  | succ k ih =>
    unfold Pcm.stepVoices
    split <;> exact ih _ _

/-- The schedule of a tick: what it advances and what it commits (R630, R631). -/
theorem pcmTick_schedule (s : State) :
    (pcmTick s).pcm.activeVoiceCount = s.pcm.activeVoiceCount ∧
    (pcmTick s).pcm.pcmCycles = s.pcm.pcmCycles + s.pcm.period ∧
    (pcmTick s).pcm.envCounter = s.pcm.envCounter + 1#14 ∧
    (pcmTick s).pcm.keyonCommitted = s.pcm.keyonPending ∧ (pcmTick s).pcm.keyonPending = s.pcm.keyonPending := by
  obtain ⟨hcount, henv⟩ : (s.pcm.mixed s.params).activeVoiceCount = s.pcm.activeVoiceCount ∧
    (s.pcm.mixed s.params).envCounter = s.pcm.envCounter := stepVoices_count_env _ _ _ _
  obtain ⟨-, hcycles⟩ : _ ∧ (s.pcm.mixed s.params).pcmCycles = s.pcm.pcmCycles := stepVoices_waveRom_pcmCycles _ _ _ _
  obtain ⟨-, -, hpending⟩ := mixed_length_keyon s.params s.pcm
  refine ⟨hcount, ?_, congrArg (· + 1#14) henv, hpending, hpending⟩
  change (s.pcm.mixed s.params).pcmCycles + ((s.pcm.mixed s.params).activeVoiceCount.toNat + 1) * 25 = _
  rw [hcount, hcycles, Pcm.period]

/-- What `n` ticks of the engine do (R630, R631). -/
structure Ticked (n : Nat) (s t : State) : Prop where
  count : t.pcm.activeVoiceCount = s.pcm.activeVoiceCount
  cycles : t.pcm.pcmCycles = s.pcm.pcmCycles + n * s.pcm.period
  env : t.pcm.envCounter = s.pcm.envCounter + BitVec.ofNat 14 n
  samples : t.model.hostOut.length = s.model.hostOut.length + n
  committed : 0 < n → t.pcm.keyonCommitted = s.pcm.keyonPending
  pending : t.pcm.keyonPending = s.pcm.keyonPending
  frame : t = { s with pcm := t.pcm, model.hostOut := t.model.hostOut, cpu.intPending := t.cpu.intPending }
  lines : ∀ x : Source, x ≠ .irq0 → t.pending x = s.pending x

theorem iterate_pcmTick_ticked (n : Nat) (s : State) : Ticked n s (Nat.iterate pcmTick n s) := by
  induction n with
  | zero =>
    exact ⟨rfl, by simp, (BitVec.add_zero _).symm, rfl, fun h => absurd h (Nat.lt_irrefl 0), rfl, rfl, fun _ _ => rfl⟩
  | succ n ih =>
    rw [Function.iterate_succ_apply']
    obtain ⟨hcount, hcycles, henv, hsamples, -, hpending, hframe, hlines⟩ := ih
    generalize Nat.iterate pcmTick n s = u at *
    obtain ⟨hcount', hcycles', henv', hcommitted', hpending'⟩ := pcmTick_schedule u
    refine ⟨hcount'.trans hcount, ?_, ?_, ?_, fun _ => hcommitted'.trans hpending, hpending'.trans hpending, ?_,
      fun x hx => (pcmTick_pending_other u hx).trans (hlines x hx)⟩
    · have hperiod : u.pcm.period = s.pcm.period := by rw [Pcm.period, hcount, Pcm.period]
      rw [hcycles', hcycles, hperiod, Nat.succ_mul, Nat.add_assoc]
    · rw [henv', henv, BitVec.add_assoc, ← BitVec.ofNat_add]
    · exact congrArg Nat.succ hsamples
    · rw [hframe]
      rfl

/-- The ticks due bring `pcm_cycles` up to the cycle count, and the last of them was still behind it (R630). -/
theorem pcmTicksDue_spec (m : Pcm) (cycles : Nat) :
    cycles ≤ m.pcmCycles + pcmTicksDue m cycles * m.period ∧
    (pcmTicksDue m cycles = 0 ∨ m.pcmCycles + pcmTicksDue m cycles * m.period < cycles + m.period) := by
  have hpos : 0 < m.period := Nat.mul_pos (Nat.succ_pos _) (by decide)
  have hdue : pcmTicksDue m cycles = (cycles - m.pcmCycles) ⌈/⌉ m.period := (Nat.ceilDiv_eq_add_pred_div _ _).symm
  have hle : ∀ k, cycles - m.pcmCycles ≤ k * m.period ↔ pcmTicksDue m cycles ≤ k := fun k => by
    rw [hdue, ceilDiv_le_iff_le_mul hpos, Nat.mul_comm]
  have hreached := (hle _).2 le_rfl
  refine ⟨by omega, ?_⟩
  obtain hzero | ⟨k, hk⟩ : pcmTicksDue m cycles = 0 ∨ ∃ k, pcmTicksDue m cycles = k + 1 := by
    cases pcmTicksDue m cycles <;> simp
  · exact .inl hzero
  · have hbefore : ¬ cycles - m.pcmCycles ≤ k * m.period := by rw [hle]; omega
    rw [hk, Nat.succ_mul]
    omega

/-! ## The obligation -/

/-- Settles O41: the timers by `timerClocks_clocked`, the engine by `iterate_pcmTick_ticked`, how many rounds by
`timerClocksDue_spec` and `pcmTicksDue_spec`. -/
theorem schedules : Obligations.Schedules := by
  intro s
  have htimers : Clocked (timerClocksDue s.params s.dev.tclk s.cpu.cycles) s (timerUpdate s) := timerClocks_clocked _ s
  have htclk := iterate_clock_tclk s.params (timerClocksDue s.params s.dev.tclk s.cpu.cycles) s.dev
  rw [← htimers.dev] at htclk
  refine ⟨⟨_, htimers.dev, htclk, htimers.frame, htimers.idle, htimers.lines, htimers.kept⟩, fun hdiv => ?timers,
    ?engine⟩
  case timers =>
    obtain ⟨hreached, hlast⟩ := timerClocksDue_spec hdiv s.dev.tclk s.cpu.cycles
    rw [htclk]
    exact ⟨hreached, hlast.imp_left fun h => by rw [h, Nat.add_zero]⟩
  case engine =>
    intro p t
    have hiterate : t = Nat.iterate pcmTick (pcmTicksDue s.pcm s.cpu.cycles) s := pcmTicks_eq_iterate _ s
    have h : Ticked (pcmTicksDue s.pcm s.cpu.cycles) s t := hiterate ▸ iterate_pcmTick_ticked _ s
    obtain ⟨hreached, hlast⟩ := pcmTicksDue_spec s.pcm s.cpu.cycles
    refine ⟨_, hiterate, h.cycles, h.cycles ▸ hreached, h.cycles ▸ hlast, h.samples, ?_, h.committed, h.pending,
      h.frame, h.lines⟩
    rw [h.env, BitVec.toNat_add, BitVec.toNat_ofNat, Nat.add_mod_mod]

end Sys2Proof.Machine
end

section
/-! Proofs. The access flags of the shared bytes (R609, R621, R622, R623). -/

namespace Sys2Proof.Machine

/-- A single bit, at any width. -/
theorem getLsbD_one_shiftLeft {w : Nat} (j : Nat) {k : Nat} (hk : k < w) : (1#w <<< j).getLsbD k = decide (k = j) := by
  rw [← BitVec.twoPow_eq, BitVec.getLsbD_twoPow, ← Bool.decide_and, decide_eq_decide]
  omega

/-- One flag written (R621, R622). -/
theorem getLsbD_accWith (b : Bool) (acc : BitVec 192) {i j : Nat} (hj : j < 192) :
    (accWith i b acc).getLsbD j = if j = i then b else acc.getLsbD j := by
  cases b with
  | false =>
    rw [accWith, if_neg Bool.false_ne_true, BitVec.getLsbD_and, BitVec.getLsbD_not, getLsbD_one_shiftLeft i hj,
      decide_eq_true hj]
    split_ifs with h <;> simp [h]
  | true =>
    rw [accWith, if_pos rfl, BitVec.getLsbD_or, getLsbD_one_shiftLeft i hj]
    split_ifs with h <;> simp [h]

/-- Bit `j` raised where `b` holds, every other bit kept (R592, R609). -/
theorem getLsbD_raisedIf (j : Nat) (b : Bool) (v : Byte) {k : Nat} (hk : k < 8) :
    (raisedIf j b v).getLsbD k = (v.getLsbD k || (decide (k = j) && b)) := by
  cases b with
  | false => rw [Bool.and_false, Bool.or_false]; rfl
  | true => rw [raisedIf, if_pos rfl, BitVec.getLsbD_or, getLsbD_one_shiftLeft j hk, Bool.and_true]

/-- An access of a shared byte asks COLLISION_RULE and leaves the bytes `m` and the flags `acc` (R609, R621, R622). -/
def State.accessed (a : SharedAccess) (m : Memory) (acc : BitVec 192) (s : State) : State :=
  { s with link := { s.link.collide s.params a with shram := m, acc := acc } }

theorem accessed_frame (a : SharedAccess) (m : Memory) (acc : BitVec 192) (s : State) :
    SharedFrame a s (s.accessed a m acc) :=
  ⟨rfl, fun _ hk => getLsbD_raisedIf 0 _ _ hk, fun _ hk => getLsbD_raisedIf 7 _ _ hk⟩

/-- The flags where `b` lets the access write its own. -/
theorem getLsbD_accWith_if (acc : BitVec 192) (i : Nat) (b x : Bool) {j : Nat} (hj : j < 192) :
    (if b = true then accWith i x acc else acc).getLsbD j = if j = i ∧ b = true then x else acc.getLsbD j := by
  cases b with
  | false => simp
  | true => simp [getLsbD_accWith x acc hj]

/-- The flags where `b` keeps the access from writing its own. -/
theorem getLsbD_accWith_unless (acc : BitVec 192) (i : Nat) (b x : Bool) {j : Nat} (hj : j < 192) :
    (if b = true then acc else accWith i x acc).getLsbD j = if j = i ∧ (!b) = true then x else acc.getLsbD j := by
  cases b with
  | false => simp [getLsbD_accWith x acc hj]
  | true => simp

theorem subShRead_eq (i : Nat) (s : State) : subShRead i s = (s.link.shram.read i, s.accessed ⟨.sub, false, i⟩
    s.link.shram (if s.link.mainProduces = true then accWith i false s.link.acc else s.link.acc)) := rfl

theorem mainShRead_eq (i : Nat) (s : State) : mainShRead i s = (s.link.shram.read i, s.accessed ⟨.main, false, i⟩
    s.link.shram (if s.link.mainProduces = true then s.link.acc else accWith i false s.link.acc)) := rfl

theorem subShWrite_eq (i : Nat) (v : Byte) (s : State) : subShWrite i v s = s.accessed ⟨.sub, true, i⟩
    (s.link.shram.write i v) (if s.link.mainProduces = true then s.link.acc else accWith i true s.link.acc) := rfl

theorem mainShWrite_eq (i : Nat) (v : Byte) (s : State) : mainShWrite i v s = s.accessed ⟨.main, true, i⟩
    (s.link.shram.write i v) (if s.link.mainProduces = true then accWith i true s.link.acc else s.link.acc) := rfl

/-- Settles O43: the four accesses as `State.accessed`, their flags by `getLsbD_accWith_if` and
`getLsbD_accWith_unless`. -/
theorem sharedAccessFlags : Obligations.SharedAccessFlags := by
  intro s i v hi p flags
  refine ⟨⟨rfl, rfl, fun j hj => getLsbD_accWith_if _ i p false hj⟩,
    ⟨rfl, rfl, fun j hj => getLsbD_accWith_unless _ i p false hj⟩,
    ⟨rfl, fun j hj => getLsbD_accWith_unless _ i p true hj⟩,
    ⟨rfl, fun j hj => getLsbD_accWith_if _ i p true hj⟩, ⟨?_, ?_, ?_, ?_⟩, rfl, fun hp => ⟨?set, ?cleared⟩⟩
  · exact subShRead_eq i s ▸ accessed_frame _ _ _ s
  · exact mainShRead_eq i s ▸ accessed_frame _ _ _ s
  · exact subShWrite_eq i v s ▸ accessed_frame _ _ _ s
  · exact mainShWrite_eq i v s ▸ accessed_frame _ _ _ s
  case set =>
    refine (getLsbD_accWith_unless s.link.acc i p true hi).trans (if_pos ⟨rfl, ?_⟩)
    rw [hp, Bool.not_false]
  case cleared =>
    refine (getLsbD_accWith_unless (subShWrite i v s).link.acc i p false hi).trans (if_pos ⟨rfl, ?_⟩)
    rw [hp, Bool.not_false]

end Sys2Proof.Machine
end

section
/-! Proofs. The device block of the sub core, the link between the cores, UART time and the prescaled timer (R600 to
R612, R620). -/

namespace Sys2Proof.Machine

variable {s : State} {i : Nat}

/-! ## The pending bits -/

/-- Bit `j` of the pending bits has the value `x`, the other bits are those of `l` (R592). -/
theorem setPending_getLsbD (l : Link) (j : Nat) (b : Bool) {k : Nat} (hk : k < 8) :
    (l.setPending j b).intPending.getLsbD k = if k = j then b else l.intPending.getLsbD k := by
  cases b with
  | false =>
    rw [Link.setPending, if_neg Bool.false_ne_true, BitVec.getLsbD_and, BitVec.getLsbD_not, getLsbD_one_shiftLeft j hk,
      decide_eq_true hk]
    split_ifs with h <;> simp [h]
  | true =>
    rw [setPending_true_getLsbD l j hk]
    split_ifs with h <;> simp [h]

/-- Source `j` written, the others kept. -/
theorem setPending_pend (l : Link) {j : Nat} (b : Bool) (hj : j < 8) :
    (l.setPending j b).intPending.getLsbD j = b ∧
      ∀ k, k < 8 → k ≠ j → (l.setPending j b).intPending.getLsbD k = l.intPending.getLsbD k :=
  ⟨(setPending_getLsbD l j b hj).trans (if_pos rfl), fun _ hk hne => (setPending_getLsbD l j b hk).trans (if_neg hne)⟩

/-- As above, with a UART channel written before: its registers are no pending bits. -/
theorem setPending_setUart_pend (l : Link) (c : Chan) (u : Uart) {j : Nat} (b : Bool) (hj : j < 8) :
    ((l.setUart c u).setPending j b).intPending.getLsbD j = b ∧
      ∀ k, k < 8 → k ≠ j → ((l.setUart c u).setPending j b).intPending.getLsbD k = l.intPending.getLsbD k := by
  have hpending : (l.setUart c u).intPending = l.intPending := by cases c <;> rfl
  rw [← hpending]
  exact setPending_pend _ b hj

/-- The two sources of a UART channel are among the eight (R592). -/
theorem uartSource_lt (c : Chan) : 2 * c.toNat + 1 < 8 := by cases c <;> decide

/-! ## Registers -/

theorem subDevRead_reg {r : SubDevReg} (h : subDevReg s.params i = some r) : subDevRead i s = subRegRead r s := by
  rw [subDevRead, h]

theorem subDevWrite_reg {r : SubDevReg} (h : subDevReg s.params i = some r) (v : Byte) :
    subDevWrite i v s = subRegWrite r v s := by
  rw [subDevWrite, h]

theorem subDevRead_stored (h : subDevReg s.params i = none) : subDevRead i s = (s.link.stored.read i, s) := by
  rw [subDevRead, h]

theorem subDevWrite_stored (h : subDevReg s.params i = none) (v : Byte) :
    subDevWrite i v s = { s with link.stored := s.link.stored.write i v } := by
  rw [subDevWrite, h]

/-- `UcSTAT`: bit 0 a byte is ready, bit 1 the transmitter is empty (R600). -/
theorem uartStatus_toNat (u : Uart) : u.status.toNat = u.rxReady.toNat + 2 * u.txEmpty.toNat := by
  have h : ∀ a b : Bool, (bit 8 a ||| (bit 8 b <<< 1)).toNat = a.toNat + 2 * b.toNat := by decide
  exact h _ _

/-- The default `SUBDEVMAP` names no offset from 0x16 up (R600). -/
theorem subDevReg_default_none {p : Params} (hmap : p.subDevMap = defaultSubDevMap) (hi : 0x16 ≤ i) :
    subDevReg p i = none := by
  have hbelow : ∀ e ∈ defaultSubDevMap, e.1 < 0x16 := by decide
  rw [subDevReg, hmap, Option.map_eq_none_iff, List.find?_eq_none]
  intro e he
  rw [beq_iff_eq]
  exact ((hbelow e he).trans_le hi).ne

/-! ## Time -/

theorem arrives_eq (u : Uart) (now : Nat) : u.arrives now = u.rxDue.any fun d => decide (d ≤ now) := by
  unfold Uart.arrives
  cases u.rxDue <;> rfl

theorem postUart_idle (h : s.params.variant = .mk2) (hdue : s.link.uart0.rxDue = none) (b : Byte) : postUart b s =
    { s with link.uart0 :=
        { s.link.uart0 with rxIncoming := b, rxDue := some (s.sub.cycles + Config.uartRxLatency) } } := by
  rw [postUart, h, hdue]

/-- A second byte in flight is dropped (R604). -/
theorem postUart_inFlight (h : s.params.variant = .mk2) (hdue : s.link.uart0.rxDue ≠ none) (b : Byte) :
    postUart b s = s := by
  obtain ⟨d, hd⟩ := Option.ne_none_iff_exists'.1 hdue
  rw [postUart, h, hd]

theorem subDevUpdate_uart (s : State) (c : Chan) :
    (subDevUpdate s).link.uart c = (s.link.uart c).advance s.sub.cycles := by
  cases c <;> rfl

/-- The pending bits after SubDevUpdate: the channels whose byte has arrived, and the timer where it passed zero
(R592). -/
theorem subDevUpdate_pending (s : State) {j : Nat} (hj : j < 8) :
    (subDevUpdate s).link.intPending.getLsbD j =
      (s.link.intPending.getLsbD j || (decide (j = 0) && s.link.uart0.arrives s.sub.cycles) ||
        (decide (j = 2) && s.link.uart1.arrives s.sub.cycles) ||
        (decide (j = 4) && s.link.uart2.arrives s.sub.cycles) ||
        (decide (j = 6) && decide (s.link.stCount.toNat < (s.link.stDiv + Config.subCpi) / s.link.timerPeriod))) := by
  rw [← getLsbD_raisedIf _ _ _ hj, ← getLsbD_raisedIf _ _ _ hj, ← getLsbD_raisedIf _ _ _ hj,
    ← getLsbD_raisedIf _ _ _ hj]
  rfl

/-! ## The obligation -/

/-- Settles O44: each register by its reads and writes (`subDevRead_reg`, `subDevWrite_reg`), its pending bit by
`setPending_pend`; UART time and the timer by `subDevUpdate_uart` and `subDevUpdate_pending`. -/
theorem subDevices : Obligations.SubDevices := by
  intro s v b l pend
  refine ⟨⟨setPending_pend _ true (by decide), rfl, fun i => ?register⟩,
    fun hmap => ⟨fun c => ?uarts, ?named, fun i hi => subDevReg_default_none hmap hi⟩,
    fun hmk2 => ⟨fun h => postUart_idle hmk2 h b, fun h => postUart_inFlight hmk2 h b⟩, fun hmk1 => ?mk1,
    fun u => ⟨rfl, rfl, rfl, rfl, rfl, rfl⟩, ?time⟩
  case register =>
    cases hreg : subDevReg s.params i with
    | none =>
      refine ⟨subDevRead_stored hreg, subDevWrite_stored hreg v, fun ha hi => ?_⟩
      have hstored : l.stored.wf 0x20 = true := by
        simp only [State.arraysOk, Bool.and_eq_true] at ha
        exact ha.2
      rw [subDevWrite_stored hreg]
      refine (congrArg Prod.fst (subDevRead_stored ?_)).trans (Memory.read_write_same _ v _ 0 i hstored)
      exact hreg
    | some r =>
      have hread (t : State) (ht : t.params = s.params) : subDevRead i t = subRegRead r t := subDevRead_reg (ht ▸ hreg)
      have hwrite (x : Byte) : subDevWrite i x s = subRegWrite r x s := subDevWrite_reg hreg x
      cases r with
      | uData c =>
        have hc := uartSource_lt c
        dsimp only
        rw [hread s rfl, hwrite b]
        exact ⟨⟨rfl, setPending_setUart_pend l c _ false (by omega), rfl⟩, setPending_setUart_pend l c _ true hc, rfl⟩
      | uStat c =>
        rw [hread s rfl]
        exact ⟨uartStatus_toNat _, rfl, hwrite v⟩
      | uMode c | uBaud c | tpre | tcnt => exact ⟨hread s rfl, hwrite v⟩
      | mbox =>
        refine ⟨hread s rfl, hwrite v, congrArg Prod.fst (hread (windowWrite 0xE0 v s) rfl), ?_⟩
        rw [hwrite v]
        rfl
      | sema =>
        refine ⟨hread s rfl, hwrite v, congrArg Prod.fst (hread (windowWrite 0xE1 v s) rfl), ?_⟩
        rw [hwrite v]
        rfl
      | coll =>
        dsimp only
        rw [hread s rfl]
        exact ⟨⟨rfl, setPending_pend _ false (by decide), rfl⟩, hwrite v⟩
      | ramdir | pout =>
        refine ⟨hread s rfl, hwrite v, ?_⟩
        rw [hwrite v]
        rfl
      | ien =>
        dsimp only
        rw [hread s rfl, hwrite v]
        exact ⟨BitVec.toNat_setWidth_of_le (by decide), rfl, rfl, BitVec.extractLsb'_toNat _ _ _⟩
      | ipend =>
        dsimp only
        rw [hread s rfl, hwrite v]
        exact ⟨rfl, rfl, fun k _ => BitVec.getLsbD_and⟩
      | pin => exact ⟨hread s rfl, hwrite v, congrArg Prod.fst (hread (windowWrite 0xE2 v s) rfl)⟩
  case uarts =>
    rw [subDevReg, subDevReg, subDevReg, subDevReg, hmap]
    cases c <;> exact ⟨rfl, rfl, rfl, rfl⟩
  case named =>
    simp [subDevReg, hmap, defaultSubDevMap]
  case mk1 => rw [postUart, hmk1]
  case time =>
    intro p t arrives
    refine ⟨rfl, fun c => ?_, (l.stDiv + Config.subCpi) / p, ?_, Nat.mod_lt _ ?_, rfl, fun j hj => ?_⟩
    · rw [subDevUpdate_uart, Uart.advance, arrives_eq]
    · exact Nat.mod_add_div' _ _
    · exact Nat.mul_pos (by decide) (Nat.succ_pos _)
    · rw [subDevUpdate_pending s hj, arrives_eq, arrives_eq, arrives_eq]
      rfl

end Sys2Proof.Machine
end

section
/-! Proofs. `Reset()` from any state, and the state it leaves (R50 to R53, R650, R652, R653). -/

namespace Sys2Proof.Machine

variable {s : State}

/-- The sub core's reset vector is the last word of SUBROM (R52, R402). -/
theorem subReadWord_resetVector (s : State) :
    subReadWord 0xFFFE#16 0xFFFF#16 s = (Word.ofBytes (s.sub.rom.read 0xFFF) (s.sub.rom.read 0xFFE), s) := by
  have hlow : subTarget 0xFFFE#16 = .rom 0xFFE := by decide
  have hhigh : subTarget 0xFFFF#16 = .rom 0xFFF := by decide
  rw [subReadWord, subRead_rom hlow, subRead_rom hhigh]

theorem loadSubVector_mk1 (h : s.params.variant = .mk1) : loadSubVector s = s := by
  rw [loadSubVector, h]

theorem loadSubVector_mk2 (h : s.params.variant = .mk2) : loadSubVector s =
    s.setSpc (Word.ofBytes (s.sub.rom.read 0xFFF) (s.sub.rom.read 0xFFE)) := by
  rw [loadSubVector, h, subReadWord_resetVector]

/-- The registers after `Reset()`, CP and PC those of vector 0 (R650). -/
def vectoredReset (s : State) : State :=
  { resetRegisters s with cpu.cp := s.mem.rom1.read 1,
                          cpu.pc := Word.ofBytes (s.mem.rom1.read 2) (s.mem.rom1.read 3) }

theorem hostReset_eq (h : vectorInRom s.params 0) : hostReset s = loadSubVector (vectoredReset s) :=
  congrArg loadSubVector (loadVector_rom (s := resetRegisters s) h)

/-- On mk1 SPC stays. -/
theorem hostReset_mk1 (h : vectorInRom s.params 0) (hv : s.params.variant = .mk1) : hostReset s = vectoredReset s :=
  (hostReset_eq h).trans (loadSubVector_mk1 hv)

/-- On mk2 SPC is loaded too (R590, R650). -/
theorem hostReset_mk2 (h : vectorInRom s.params 0) (hv : s.params.variant = .mk2) : hostReset s =
    (vectoredReset s).setSpc (Word.ofBytes (s.sub.rom.read 0xFFF) (s.sub.rom.read 0xFFE)) :=
  (hostReset_eq h).trans (loadSubVector_mk2 hv)

/-- What `Reset()` leaves but for SPC: the registers with CP and PC of vector 0 (R650). -/
theorem hostReset_but_spc (h : vectorInRom s.params 0) :
    hostReset s = { vectoredReset s with sub.spc := (hostReset s).sub.spc } := by
  cases hv : s.params.variant with
  | mk1 => rw [hostReset_mk1 h hv]
  | mk2 => rw [hostReset_mk2 h hv]; rfl

/-- A second reset finds what the first left (R650). -/
theorem hostReset_idempotent (h : vectorInRom s.params 0) : hostReset (hostReset s) = hostReset s := by
  cases hv : s.params.variant with
  | mk1 =>
    rw [hostReset_mk1 h hv]
    exact hostReset_mk1 (s := vectoredReset s) h hv
  | mk2 =>
    rw [hostReset_mk2 h hv]
    exact hostReset_mk2 (s := (vectoredReset s).setSpc _) h hv

/-- Settles O60: every field of `hostReset_but_spc`, SPC by the variant. -/
theorem resetFromAnyState : Obligations.ResetFromAnyState := by
  refine ⟨fun p hmap => vectorInRom_default hmap (by decide), fun s h => ?_⟩
  have hreset := hostReset_but_spc h
  refine ⟨hostReset_idempotent h, ?_, ?_, ?_, ?_, ?_, ?_, fun hv => ?mk2, fun hv => ?mk1⟩
  case mk2 => rw [hostReset_mk2 h hv]; rfl
  case mk1 => rw [hostReset_mk1 h hv]; rfl
  all_goals rw [hreset]; rfl

/-- Settles O59: the two invariants by evaluation, the fixed point by `hostReset_mk2`, the model's own fields by
`hostReset_but_spc`. -/
theorem resetIsLegal : Obligations.ResetIsLegal := by
  refine ⟨by decide, linesOk_iff.2 reset_linesOk, ?_, fun s h => ?_⟩
  · have hvector : vectorInRom State.reset.params 0 := vectorInRom_default rfl (by decide)
    exact hostReset_mk2 hvector rfl
  · rw [hostReset_but_spc h]
    rfl

end Sys2Proof.Machine
end
